-- ==== Sys2Proof/Word.lean ====
section
/-! DEFINITION. The words that cross the bus of the JM420: bytes, and the 16- and 24-bit numbers laid out
in frames and views (12.1, R198). Everything the manual treats as a quantity is a `Nat` or an `Int`. -/

namespace Sys2Proof

/-- One byte of a frame or a view. -/
abbrev Byte := BitVec 8

/-- A two-byte number of a frame or a view. -/
abbrev Half := BitVec 16

/-- A three-byte number of a frame or a view. -/
abbrev Tri := BitVec 24

end Sys2Proof
end

