-- ==== Sys2Proof/Syntax.lean ====
section
/-! DEFINITION. The commands and events of the JM420: one constructor for each row of
spec/opcode_table.json.

A command of a master carries the port it was written to and the parameter bytes of its frame, as raw as
they cross the bus (12.2): a value out of range or a byte that names no choice can be written, and the
command's rule answers it. An event carries what the outside world fixes of it: a measured code, a sampled
level, an address, and `dt`, the microseconds that passed since the event before it. The events of the
part's own timers carry no time: each happens when its timer runs out (DESIGN CHOICE, log entries 3, 4, 7
and 14). -/

namespace Sys2Proof

/-- The four bus personalities (R177), in the order of their codes (12.5). -/
inductive Port where
  | console | safety | link | service
deriving DecidableEq, Repr

/-- The five channels whose request is a single conversion (R143). -/
inductive Channel where
  | mains | base | element | cell | motorI
deriving DecidableEq, Repr

/-- A point of the thermistor table as it crosses the bus: a code and a signed temperature (R200). -/
abbrev RawPoint := Half × Half

/-- One command or event of the part. -/
inductive Instr where
  /- Commands: the taking and execution of one frame of port `p` (R182). -/
  | selectView (p : Port) (view : Byte) (number : Half)
  | takeNotice (p : Port)
  | setSubscription (p : Port) (marks : Half)
  | pause (p : Port)
  | confirm (p : Port) (step : Byte)
  | start (p : Port)
  | resume (p : Port)
  | skip (p : Port)
  | abort (p : Port)
  | putStep (p : Port) (index : Byte) (record : List Byte)
  | deleteStep (p : Port) (index : Byte)
  | clearProgram (p : Port)
  | setHoldPoint (p : Port) (slot index : Byte)
  | clearHoldPoint (p : Port) (slot : Byte)
  | tare (p : Port)
  | manualSet (p : Port) (level heatPresent : Byte) (target cap : Half)
  | manualStop (p : Port)
  /-- `pin` is the level present on the line's pin, which the reply shows under an input function. -/
  | setLineLevel (p : Port) (line level : Byte) (pin : Bool)
  | enterConfig (p : Port)
  | leaveConfig (p : Port)
  | setAcceptance (p : Port) (port filter enable code mask : Byte)
  | setService (p : Port) (choice : Byte)
  | setBudget (p : Port) (watts : Half)
  /-- `pin` is the level present on the line's pin, which the reply shows under an input function. -/
  | setLineFunction (p : Port) (line function : Byte) (pin : Bool)
  | setLineFilter (p : Port) (interval : Byte)
  | setScalePolicy (p : Port) (pairs policy : Byte) (still motion threshold : Half)
  | loadScaleCalibration (p : Port) (zero : Tri) (gain tc tcal : Half)
  | loadHeaterData (p : Port) (rh rating kmains : Half)
  | loadThermistorTableFirst (p : Port) (half : Byte) (points : List RawPoint)
  | loadThermistorTableSecond (p : Port) (half : Byte) (points : List RawPoint)
  | warmReset (p : Port)
  | leaseArm (p : Port) (period locked : Byte)
  | leaseKeyA (p : Port)
  | leaseKeyB (p : Port)
  | leaseDisarm (p : Port)
  | safetyStop (p : Port)
  | safetyClear (p : Port)
  | safetyLimit (p : Port) (watts : Half)
  /-- A frame that is malformed, too long or names no command: its stored bytes and its too-long mark. -/
  | badFrame (p : Port) (bytes : List Byte) (tooLong : Bool)
  /- Events of the bus, the pins and the part's own timers. -/
  | writeAddressPhase (dt : Nat) (address : BitVec 7)
  | writeEnd (dt : Nat) (bytes : List Byte)
  /-- `pins` holds the levels present on AUX0 (bit 0) to AUX7 (bit 7). -/
  | readAddressPhase (dt : Nat) (address : BitVec 7) (pins : Byte)
  /-- `addrsel` is the level of the strap at power-on, `stopN` whether STOP_N is then asserted. -/
  | powerOnReset (addrsel stopN : Bool)
  | runClockTick (dt : Nat)
  | activeTimeTick (dt : Nat)
  | timeDone
  | overdue
  | freeClockTick
  | indexPulse (dt : Nat)
  | scaleTrigInEdge (dt : Nat) (line : Fin 8)
  | bladeStopped
  /-- The pairs (Cf, Cr) of the burst, first to last. -/
  | scaleBurstComplete (codes : List (Tri × Tri))
  | tareForced
  | thermistorTimer
  | motorITimer
  | conversionComplete (channel : Channel) (code : BitVec 12)
  | mainsZeroCrossing (dt : Nat)
  | mainsLossTimeout
  | ventFanRunoutEnd
  | rampStep
  | intervalPhaseEnd
  | kneadHalfEnd
  | inverterRestWaitEnd
  | lidLockSettleEnd
  | speedCheck
  | speedTimeout
  | stall
  /-- The levels sampled on the three lines: `true` is the active level. -/
  | lineFilterSample (heat motion lid : Bool)
  | stopNAsserted (dt : Nat)
  | leaseTick
  | leaseLapse
  | lockedLeaseLapse
  | buzzerPhaseEnd
  | runLampBlink
  | stopNReleased (dt : Nat)
deriving DecidableEq, Repr

end Sys2Proof
end

