-- ==== Sys2Proof/Decode.lean ====
section
/-! DEFINITION. The command words. The opcode table gives no row any bits, so `decodeTableWord` reads none.
The words the part does decode are the frames of its bus: `decodeFrame` reads a frame's bytes as a row, by
the checks of R182 stages 1 and 2 and the layouts of R198 to R200, and `frameOf` writes them. -/

namespace Sys2Proof

/-- The command that a word of the opcode table spells. No row of the table gives bits (log
entry 27). -/
def decodeTableWord (_nbits _w : Nat) : Option Instr := none

/-! ### Fields of a frame: most significant byte first (R198) -/

/-- A two-byte number from its bytes. -/
def halfOf (hi lo : Byte) : Half := hi ++ lo

/-- A three-byte number from its bytes. -/
def triOf (hi mid lo : Byte) : Tri := hi ++ mid ++ lo

/-- The bytes of a two-byte number. -/
def halfBytes (h : Half) : List Byte := [h.extractLsb' 8 8, h.extractLsb' 0 8]

/-- The bytes of a three-byte number. -/
def triBytes (t : Tri) : List Byte := [t.extractLsb' 16 8, t.extractLsb' 8 8, t.extractLsb' 0 8]

/-- Points of the thermistor table from their bytes, four bytes each (R200). -/
def pointsOf : List Byte → List RawPoint
  | c1 :: c0 :: t1 :: t0 :: rest => (halfOf c1 c0, halfOf t1 t0) :: pointsOf rest
  | _ => []

/-- The bytes of points of the thermistor table (R200). -/
def pointBytes : List RawPoint → List Byte
  | [] => []
  | (c, t) :: rest => halfBytes c ++ halfBytes t ++ pointBytes rest

/-! ### The frame decoder -/

/-- The row that a command code and its parameters spell, for a frame of port `p`: `none` where the code
names no command or the parameter count is not the command's (R182 stage 2). `pin` is the level on the pin
that the line commands' replies show. -/
def decodeCommand (p : Port) (pin : Bool) (code : Byte) (params : List Byte) : Option Instr :=
  match code.toNat, params with
  | 0x00, [v, n1, n0] => some (.selectView p v (halfOf n1 n0))
  | 0x10, [] => some (.takeNotice p)
  | 0x11, [m1, m0] => some (.setSubscription p (halfOf m1 m0))
  | 0x20, [] => some (.pause p)
  | 0x30, [i] => some (.confirm p i)
  | 0x40, [] => some (.start p)
  | 0x41, [] => some (.resume p)
  | 0x42, [] => some (.skip p)
  | 0x43, [] => some (.abort p)
  | 0x50, i :: record => if 5 ≤ record.length then some (.putStep p i record) else none
  | 0x51, [i] => some (.deleteStep p i)
  | 0x52, [] => some (.clearProgram p)
  | 0x60, [s, i] => some (.setHoldPoint p s i)
  | 0x61, [s] => some (.clearHoldPoint p s)
  | 0x70, [] => some (.tare p)
  | 0x80, [l, h, t1, t0, c1, c0] => some (.manualSet p l h (halfOf t1 t0) (halfOf c1 c0))
  | 0x81, [] => some (.manualStop p)
  | 0x90, [l, v] => some (.setLineLevel p l v pin)
  | 0xA0, [] => some (.enterConfig p)
  | 0xA1, [] => some (.leaveConfig p)
  | 0xA2, [q, f, e, c, m] => some (.setAcceptance p q f e c m)
  | 0xA3, [c] => some (.setService p c)
  | 0xA4, [w1, w0] => some (.setBudget p (halfOf w1 w0))
  | 0xA5, [l, f] => some (.setLineFunction p l f pin)
  | 0xA6, [i] => some (.setLineFilter p i)
  | 0xA7, [n, t, s1, s0, m1, m0, l1, l0] =>
      some (.setScalePolicy p n t (halfOf s1 s0) (halfOf m1 m0) (halfOf l1 l0))
  | 0xA8, [z2, z1, z0, g1, g0, c1, c0, t1, t0] =>
      some (.loadScaleCalibration p (triOf z2 z1 z0) (halfOf g1 g0) (halfOf c1 c0) (halfOf t1 t0))
  | 0xA9, [r1, r0, e1, e0, k1, k0] =>
      some (.loadHeaterData p (halfOf r1 r0) (halfOf e1 e0) (halfOf k1 k0))
  | 0xAA, h :: points =>
      if points.length = 36 then some (.loadThermistorTableFirst p h (pointsOf points))
      else if points.length = 32 then some (.loadThermistorTableSecond p h (pointsOf points))
      else none
  | 0xB0, [] => some (.warmReset p)
  | 0xC0, [d, l] => some (.leaseArm p d l)
  | 0xC1, [] => some (.leaseKeyA p)
  | 0xC2, [] => some (.leaseKeyB p)
  | 0xC3, [] => some (.leaseDisarm p)
  | 0xC4, [] => some (.safetyStop p)
  | 0xC5, [] => some (.safetyClear p)
  | 0xC6, [w1, w0] => some (.safetyLimit p (halfOf w1 w0))
  | _, _ => none

/-- The row that a frame's stored bytes spell: its first byte must equal the number of bytes that follow
it, and the second byte is the command code (R182 stages 1 and 2). -/
def decodeFrame (p : Port) (pin : Bool) : List Byte → Option Instr
  | length :: code :: params =>
      if length.toNat = params.length + 1 then decodeCommand p pin code params else none
  | _ => none

/-! ### The frame encoder -/

/-- The command code and the parameter bytes of a command's frame (12.2); `none` for a row that is no
command of a master, and for BAD_FRAME, whose bytes are its own. -/
def codeAndParams : Instr → Option (Port × Byte × List Byte)
  | .selectView p v n => some (p, 0x00, v :: halfBytes n)
  | .takeNotice p => some (p, 0x10, [])
  | .setSubscription p m => some (p, 0x11, halfBytes m)
  | .pause p => some (p, 0x20, [])
  | .confirm p i => some (p, 0x30, [i])
  | .start p => some (p, 0x40, [])
  | .resume p => some (p, 0x41, [])
  | .skip p => some (p, 0x42, [])
  | .abort p => some (p, 0x43, [])
  | .putStep p i record => some (p, 0x50, i :: record)
  | .deleteStep p i => some (p, 0x51, [i])
  | .clearProgram p => some (p, 0x52, [])
  | .setHoldPoint p s i => some (p, 0x60, [s, i])
  | .clearHoldPoint p s => some (p, 0x61, [s])
  | .tare p => some (p, 0x70, [])
  | .manualSet p l h t c => some (p, 0x80, l :: h :: (halfBytes t ++ halfBytes c))
  | .manualStop p => some (p, 0x81, [])
  | .setLineLevel p l v _ => some (p, 0x90, [l, v])
  | .enterConfig p => some (p, 0xA0, [])
  | .leaveConfig p => some (p, 0xA1, [])
  | .setAcceptance p q f e c m => some (p, 0xA2, [q, f, e, c, m])
  | .setService p c => some (p, 0xA3, [c])
  | .setBudget p w => some (p, 0xA4, halfBytes w)
  | .setLineFunction p l f _ => some (p, 0xA5, [l, f])
  | .setLineFilter p i => some (p, 0xA6, [i])
  | .setScalePolicy p n t s m l => some (p, 0xA7, n :: t :: (halfBytes s ++ halfBytes m ++ halfBytes l))
  | .loadScaleCalibration p z g c t => some (p, 0xA8, triBytes z ++ halfBytes g ++ halfBytes c ++ halfBytes t)
  | .loadHeaterData p r e k => some (p, 0xA9, halfBytes r ++ halfBytes e ++ halfBytes k)
  | .loadThermistorTableFirst p h points => some (p, 0xAA, h :: pointBytes points)
  | .loadThermistorTableSecond p h points => some (p, 0xAA, h :: pointBytes points)
  | .warmReset p => some (p, 0xB0, [])
  | .leaseArm p d l => some (p, 0xC0, [d, l])
  | .leaseKeyA p => some (p, 0xC1, [])
  | .leaseKeyB p => some (p, 0xC2, [])
  | .leaseDisarm p => some (p, 0xC3, [])
  | .safetyStop p => some (p, 0xC4, [])
  | .safetyClear p => some (p, 0xC5, [])
  | .safetyLimit p w => some (p, 0xC6, halfBytes w)
  | .badFrame .. | .writeAddressPhase .. | .writeEnd .. | .readAddressPhase .. | .powerOnReset ..
  | .runClockTick .. | .activeTimeTick .. | .timeDone | .overdue | .freeClockTick | .indexPulse ..
  | .scaleTrigInEdge .. | .bladeStopped | .scaleBurstComplete .. | .tareForced | .thermistorTimer
  | .motorITimer | .conversionComplete .. | .mainsZeroCrossing .. | .mainsLossTimeout
  | .ventFanRunoutEnd | .rampStep | .intervalPhaseEnd | .kneadHalfEnd | .inverterRestWaitEnd
  | .lidLockSettleEnd | .speedCheck | .speedTimeout | .stall | .lineFilterSample .. | .stopNAsserted ..
  | .leaseTick | .leaseLapse | .lockedLeaseLapse | .buzzerPhaseEnd | .runLampBlink
  | .stopNReleased .. => none

/-- The bytes of the frame that carries a command code and its parameters (12.2). -/
def frameBytesOf (code : Byte) (params : List Byte) : List Byte :=
  BitVec.ofNat 8 (params.length + 1) :: code :: params

/-- The port and the stored bytes of a command's frame. -/
def frameOf (i : Instr) : Option (Port × List Byte) :=
  (codeAndParams i).map fun c => (c.1, frameBytesOf c.2.1 c.2.2)

end Sys2Proof
end

