-- ==== Sys2Proof/Config.lean ====
section
/-! DEFINITION. What the manual fixes for every JM420: capacities, intervals of the part's timers and
their unit. The part has no free value: the manual states every value it gives a name to
(DEDUCED, log entry 1). -/

namespace Sys2Proof.Config

/-! Time is counted in thirds of a microsecond, the largest unit that measures both a whole
microsecond (R102, R129) and the up-ramp interval of 1/3 s (R123) exactly (DESIGN CHOICE, log
entry 2). -/

/-- `n` microseconds, in units of time. -/
def us (n : Nat) : Nat := 3 * n

/-- `n` milliseconds, in units of time. -/
def ms (n : Nat) : Nat := 3000 * n

/-- `n` seconds, in units of time. -/
def sec (n : Nat) : Nat := 3000000 * n

/-- The up-ramp interval over a cold base, 1/3 s (R123). -/
def thirdSec : Nat := 1000000

/-- Positions of the step table (R1). -/
def tableSize : Nat := 48

/-- Places of the inbound queue (R179). -/
def queuePlaces : Nat := 8

/-- Bytes of a frame that are stored (R180). -/
def frameBytes : Nat := 40

/-- Records a notice list holds (R169). -/
def noticePlaces : Nat := 12

/-- Records the entry list of the ingredient log holds (R88). -/
def logPlaces : Nat := 96

/-- The last entry number (R87). -/
def lastEntryNumber : Nat := 65535

/-- The greatest active time, in 0.1 s (R10, R28). -/
def maxActive : Nat := 144000

/-- The greatest value of the run clock, in 0.1 s (R23). -/
def maxClock : Nat := 4294967295

/-- The greatest corrected gross and the greatest net, in dg (R61, R62). -/
def grossMax : Int := 200000

/-- The least corrected gross, in dg (R61). -/
def grossMin : Int := -20000

/-- The power kept back for the electronics, in W (R136). -/
def reserve : Nat := 40

/-- Counted mains cycles of a window (R109). -/
def windowCycles : Nat := 50

/-- The built-in nominal thermistor table (R95). -/
def nominalTable : List (Nat × Int) :=
  [(128, 3200), (256, 2400), (384, 1900), (512, 1600), (768, 1270), (1024, 1060), (1280, 910), (1536, 790),
   (1792, 690), (2048, 600), (2304, 520), (2560, 430), (2816, 330), (3072, 220), (3328, 90), (3584, -60),
   (3840, -250)]

/-- The shaft speed each level stands for, in rpm (R119). -/
def rpmTable : List Nat := [0, 40, 100, 200, 400, 600, 900, 1300, 1900, 2800, 4000, 6000, 9000]

end Sys2Proof.Config
end

