-- ==== Sys2Proof/Machine/State.lean ====
section
/-! DEFINITION. The state of the JM420, block by block, as plain data, and its value after a power-on
reset. Each block's structure cites the rules that name its state; INVENTORY.md lists every field. -/

namespace Sys2Proof.Machine

/-! ## How a step can stop -/

/-- Faults. It has no constructor: the manual describes no event that stops the part, and HALTED and FAULTED
are run states that go on taking frames and events (R44, R45). -/
inductive Fault where
deriving DecidableEq, Repr

/-- Why a step has no meaning. -/
inductive Refusal where
  /-- Raised by an arm of `exec` whose command has no meaning yet. Safe. -/
  | notModelled (mnemonic : String)
deriving DecidableEq, Repr

/-! ## Cooking programs and the step table (chapter 1) -/

/-- End mode of a step (R2). -/
inductive EndMode where
  | any | all
deriving DecidableEq, Repr

/-- Sense of rotation (R4). -/
inductive Direction where
  | forward | reverse
deriving DecidableEq, Repr

/-- Stir pattern; only INTERVAL has times, in seconds (R4). -/
inductive Pattern where
  | continuous
  | interval (onTime offTime : Nat)
  | knead
deriving DecidableEq, Repr

/-- Where a Time part counts from (R6). -/
inductive TimeStart where
  | fromEntry | fromReached
deriving DecidableEq, Repr

/-- The Heat part (R3). -/
structure HeatPart where
  target : Nat
  cap : Nat
  band : Nat
deriving DecidableEq, Repr

/-- The Stir part (R4). -/
structure StirPart where
  level : Nat
  direction : Direction
  pattern : Pattern
deriving DecidableEq, Repr

/-- The Weigh part (R5). -/
structure WeighPart where
  target : Nat
  tolerance : Nat
deriving DecidableEq, Repr

/-- The Time part (R6). -/
structure TimePart where
  duration : Nat
  start : TimeStart
deriving DecidableEq, Repr

/-- A step record: header and optional parts (R2 to R7). -/
structure StepRecord where
  label : Byte
  endMode : EndMode
  limit : Option Nat
  autoTare : Bool
  clamped : Bool
  heat : Option HeatPart
  stir : Option StirPart
  weigh : Option WeighPart
  time : Option TimePart
  prompt : Option Byte
deriving DecidableEq, Repr

/-- Outcome of a step (R10). -/
inductive StepOutcome where
  | notRun | active | completed | skipped | aborted
deriving DecidableEq, Repr

/-- End reason of a completed step (R10). -/
inductive EndReason where
  | time | temp | weight | confirm
deriving DecidableEq, Repr

/-- The result section of an index (R10). -/
structure StepResult where
  outcome : StepOutcome
  reason : Option EndReason
  activeTime : Nat
  peak : Option Int
  netAtExit : Option Int
  overshoot : Bool
  forcedTare : Bool
deriving DecidableEq, Repr

/-- The cleared result (R10). -/
def StepResult.cleared : StepResult :=
  { outcome := .notRun, reason := none, activeTime := 0, peak := none, netAtExit := none,
    overshoot := false, forcedTare := false }

/-- The step table: the records of indices 0 to length − 1, the 48 result sections and the two hold-point
slots (R1, R10, R16). The program length is the number of records. -/
structure Program where
  steps : List StepRecord
  results : List StepResult
  hold0 : Option Nat
  hold1 : Option Nat
deriving DecidableEq, Repr

/-! ## Running a program (chapter 2) -/

/-- The nine run states (R21). -/
inductive RunState where
  | idle | ready | running | held | done | manual | config | halted | faulted
deriving DecidableEq, Repr

/-- Step phase (R22). -/
inductive Phase where
  | beforeEntry | active
deriving DecidableEq, Repr

/-- The conditions of a step (R27). -/
inductive Condition where
  | tempReached | weightMet | timeDone | confirmed
deriving DecidableEq, Repr

/-- The hold-cause set: each cause present or absent (R33). -/
structure CauseSet where
  pause : Bool := false
  holdPoint : Bool := false
  overdue : Bool := false
  stall : Bool := false
  lid : Bool := false
  permit : Bool := false
  leaseNotLive : Bool := false
  sensor : Bool := false
  mains : Bool := false
  ack : Bool := false
deriving DecidableEq, Repr

/-- The run controller (R21 to R35, R46). `met` is in the order of latching. `countRose` is the model's
own: the active time has risen since the run last became RUNNING with the step ACTIVE (DEDUCED,
log entry 9). -/
structure Run where
  state : RunState
  cursor : Nat
  phase : Phase
  clock : Nat
  active : Nat
  countRose : Bool
  met : List Condition
  reached : Option Nat
  overdueTaken : Bool
  causes : CauseSet
  manualLevel : Nat
  manualHeat : Option (Nat × Nat)
deriving DecidableEq, Repr

/-! ## Weighing (chapter 3) -/

/-- Sample kinds (R54). -/
inductive Kind where
  | still | angle | motion
deriving DecidableEq, Repr

/-- Trigger policies (R54, R76). -/
inductive Trigger where
  | auto | free | external
deriving DecidableEq, Repr

/-- Range flag (R61). -/
inductive RangeFlag where
  | ok | underrange | overrange
deriving DecidableEq, Repr

/-- The calibration record (R56). -/
structure Calibration where
  zero : Int
  gain : Nat
  tc : Int
  tcal : Int
deriving DecidableEq, Repr

/-- The scale policy (R76). -/
structure ScalePolicy where
  pairs : Nat
  trigger : Trigger
  still : Nat
  motion : Nat
  threshold : Nat
deriving DecidableEq, Repr

/-- The weighing unit (chapter 3's list of state). `sampleKind` is the kind fixed for the request that
waits or runs (R51); `lastKind` the kind of the latest completed sample (R54); `settled` the settled flag
with the settled gross; `tareTimer` the pending flag with the moment its timer runs out (R67); `freeDue` the
moment of the free clock's next tick (R55). -/
structure Weigh where
  cal : Calibration
  policy : ScalePolicy
  kind : Kind
  sampleKind : Kind
  lastKind : Option Kind
  historyKind : Kind
  history : List Int
  recent : List Int
  reported : Int
  range : RangeFlag
  settled : Option Int
  tare : Int
  tareTimer : Option Nat
  nearArmed : Bool
  freeDue : Nat
deriving DecidableEq, Repr

/-! ## The ingredient log (chapter 4) -/

/-- Kinds of log entry (section 4.3). -/
inductive EntryKind where
  | added | removed | driftGain | driftLoss | evaporated
deriving DecidableEq, Repr

/-- An entry record (R86). -/
structure Entry where
  number : Nat
  step : Nat
  kind : EntryKind
  delta : Int
  gross : Int
  time : Nat
  temp : Option Int
deriving DecidableEq, Repr

/-- Origin, baseline and previous value, which are undefined together (R78). -/
structure LogRefs where
  origin : Int
  baseline : Int
  last : Int
deriving DecidableEq, Repr

/-- The ingredient log (R78); the entry list is oldest first. -/
structure IngredientLog where
  isOpen : Bool
  refs : Option LogRefs
  entries : List Entry
  nextNumber : Nat
  exhausted : Bool
  dropped : Int
deriving DecidableEq, Repr

/-! ## Heating (chapter 5) -/

/-- A thermistor channel: its reading status with, when VALID, its latest reading (R94). -/
inductive Reading where
  | none
  | valid (t : Int)
  | invalid
deriving DecidableEq, Repr

/-- The mains state (R104). -/
inductive MainsState where
  | present | undervolt | lost
deriving DecidableEq, Repr

/-- A heat set point (R106). The step target that TEMP_REACHED is judged against is the Heat target of the
record at the cursor, its one home (DEDUCED, log entry 24). -/
structure HeatPoint where
  target : Nat
  cap : Nat
  band : Nat
deriving DecidableEq, Repr

/-- The vent fan (R117), with the moment its run-out timer expires. -/
inductive Vent where
  | off
  | on
  | runout (deadline : Nat)
deriving DecidableEq, Repr

/-- The thermal unit (chapter 5's list of state). `hot` is the element protection flag, `cycle` the cycle
number of the window in progress, `gate` the triac gate, and `lossTimer` the moment the loss timer runs
out. Tb is formed from `baseHistory` (R98). -/
structure Thermal where
  table : List (Nat × Int)
  rh : Nat
  rating : Nat
  kmains : Nat
  base : Reading
  element : Reading
  cell : Reading
  baseHistory : List Int
  hot : Bool
  mains : MainsState
  lastCrossing : Option Nat
  lastPeriod : Option Nat
  volts : Option Nat
  lossTimer : Option Nat
  setPoint : Option HeatPoint
  cycle : Option Nat
  grant : Nat
  duty : Nat
  gate : Bool
  vent : Vent
  timerDue : Nat
deriving DecidableEq, Repr

/-! ## Blade drive (chapter 6) -/

/-- A stir set point (R120); a handover of level 0 names no direction (DEDUCED, log entry 21). -/
structure StirPoint where
  level : Nat
  direction : Option Direction
  pattern : Pattern
deriving DecidableEq, Repr

/-- The set point of level 0 (R120). -/
def StirPoint.zero : StirPoint := { level := 0, direction := none, pattern := .continuous }

/-- The inverter state (R119). -/
inductive Inverter where
  | off | driving | braking
deriving DecidableEq, Repr

/-- A running ramp timer: the direction of its move and the moment it expires (R123). -/
structure Ramp where
  up : Bool
  deadline : Nat
deriving DecidableEq, Repr

/-- The blade drive (chapter 6's list of state). `wantDirection` is the direction the set point or the KNEAD
half asks for; `lastPeriod` and the moments are in units of time; `roseAt` is when the effective level last
rose from 0 (R130). -/
structure Blade where
  stir : StirPoint
  intervalOn : Bool
  patternTimer : Option Nat
  halfTimer : Option Nat
  wantDirection : Option Direction
  commanded : Nat
  effective : Nat
  direction : Direction
  ramp : Option Ramp
  inverter : Inverter
  settle : Option Nat
  lastPulse : Option Nat
  lastPeriod : Option Nat
  actual : Nat
  roseAt : Option Nat
  checkDue : Nat
  stallTimer : Option Nat
  power : Nat
  powerSum : Nat
  powerCount : Nat
  pmot : Nat
  motorDue : Nat
deriving DecidableEq, Repr

/-! ## Mains budget and shared converter (chapter 7) -/

/-- The mains budget (R136). -/
structure Budget where
  watts : Nat
  remainder : Nat
  overCount : Nat
  underCount : Nat
  ceiling : Option Nat
  peak : Nat
deriving DecidableEq, Repr

/-- The converter's work in progress (R144). `live` tells, for MAINS, that the window the request was made
for has not been abandoned (R104). A burst carries its N and the moment it began. -/
inductive Work where
  | free
  | single (channel : Channel) (live : Bool) (ends : Nat)
  | burst (pairs : Nat) (began : Nat)
deriving DecidableEq, Repr

/-- The arbiter: a waiting place per channel and the work in progress (R144). `mainsLive` qualifies the
waiting MAINS request as `Work.single` does. `chosenAt` is the model's own: the moment at which the work in
progress was chosen on the arrival of a request at a free converter, and `none` for work chosen when the
converter became free; requests of that same moment arrive together with it (DEDUCED, log entry 17). -/
structure Converter where
  scale : Option Nat
  mains : Bool
  mainsLive : Bool
  base : Bool
  element : Bool
  cell : Bool
  motorI : Bool
  work : Work
  chosenAt : Option Nat
deriving DecidableEq, Repr

/-! ## Safety lines and the safety lease (chapter 8) -/

/-- A filtered line: its filtered level and its disagreement count (R151). -/
structure Filtered where
  active : Bool
  count : Nat
deriving DecidableEq, Repr

/-- The three filtered lines (R151), in the order of their codes (12.5). -/
inductive SlowLine where
  | heatPermit | motionPermit | lidClosed
deriving DecidableEq, Repr

/-- The lease states (R158). -/
inductive LeaseState where
  | unarmed | live | lapsed
deriving DecidableEq, Repr

/-- The safety block (chapter 8's table). `interval` is in ms; `samplerDue` and `leaseDue` are the moments of
the next sample and of the next fall of the count; `stopN` is set while STOP_N is asserted (R154). -/
structure Safety where
  interval : Nat
  samplerDue : Nat
  heatPermit : Filtered
  motionPermit : Filtered
  lidClosed : Filtered
  stopN : Bool
  stopLatch : Bool
  limit : Nat
  lease : LeaseState
  period : Nat
  locked : Bool
  count : Nat
  leaseDue : Nat
  keySequence : Bool
deriving DecidableEq, Repr

/-! ## Notices (chapter 9) -/

/-- The sixteen notice kinds (R166), in the order of their codes (12.5). -/
inductive NoticeKind where
  | prompt | stepBegin | stepEnd | runDone | held | halted | fault | nearTarget | tareForced | logEntry
  | elementHot | budgetDerate | permitChange | sensor | stall | overshoot
deriving DecidableEq, Repr

/-- The sources a SENSOR notice names (R167). -/
inductive SensorSource where
  | base | element | mainsLow | mainsLost
deriving DecidableEq, Repr

/-- The value of a notice (R167). -/
inductive NoticeValue where
  | mass (dg : Int)
  | temperature (t : Int)
  | causes (c : CauseSet)
  | promptCode (code : Byte)
  | source (s : SensorSource)
  | lineChange (line : SlowLine) (active : Bool)
deriving DecidableEq, Repr

/-- A notice record (R167); its priority is its kind's (R166). -/
structure Notice where
  kind : NoticeKind
  index : Option Nat
  count : Nat
  time : Nat
  value : Option NoticeValue
deriving DecidableEq, Repr

/-- What the Notice Unit holds for a port: the subscription, bit k for kind k, the list from its head, and
the LOST flag. -/
structure NoticeList where
  subscription : Half
  entries : List Notice
  lost : Bool
deriving DecidableEq, Repr

/-- One value per port. -/
structure PerPort (α : Type) where
  console : α
  safety : α
  link : α
  service : α
deriving DecidableEq, Repr

/-! ## Bus ports and command acceptance (chapter 10) -/

/-- The sixteen result codes (section 10.7), in the order of their codes (12.5). -/
inductive ResultCode where
  | ok | okClamped | okPending | refusedClass | refusedState | badFrame | badIndex | badValue | full
  | lockedStep | interlock | locked | sequence | stale | inUse | tableOrder
deriving DecidableEq, Repr

/-- A frame in the inbound queue: its port, its stored bytes and its too-long mark (R179, R180). -/
structure Frame where
  port : Port
  bytes : List Byte
  tooLong : Bool
deriving DecidableEq, Repr

/-- A reply slot: code, result and data of the port's last executed frame (R181). Its queued count is the
number of the port's frames in the queue, and its state follows from the two. -/
structure ReplySlot where
  code : Option Byte
  result : Option ResultCode
  data : List Byte
deriving DecidableEq, Repr

/-- The views (R185), in the order of their codes (12.5). -/
inductive View where
  | status | reply | step | result | log | notices | lines | config
deriving DecidableEq, Repr

/-- A view selection with the number it carries, 0 where it carries none (R185). -/
structure Selection where
  view : View
  number : Nat
deriving DecidableEq, Repr

/-- An acceptance filter (R183). -/
structure Filter where
  enabled : Bool
  code : BitVec 4
  mask : BitVec 4
deriving DecidableEq, Repr

/-- The two acceptance filters of a port (R183). -/
structure FilterPair where
  a : Filter
  b : Filter
deriving DecidableEq, Repr

/-- The Bus Target Unit (section 10). `highBase` is the level of ADDRSEL sampled at power-on; `writing` the
port that holds the reserved place; `acknowledged` the answer at the latest address phase, and `dataAnswers`
the answers to the data bytes of the latest write to end (R180); `snapshot` the capture that the latest read
returns, with its port; `staging` the thermistor staging area (R200). -/
structure Bus where
  highBase : Bool
  serviceEnable : Bool
  queue : List Frame
  writing : Option Port
  acknowledged : Bool
  dataAnswers : List Bool
  slots : PerPort ReplySlot
  views : PerPort Selection
  filters : PerPort FilterPair
  staging : Option (Port × List RawPoint)
  snapshot : Option (Port × List Byte)
deriving DecidableEq, Repr

/-! ## Auxiliary lines (chapter 11) -/

/-- The eight line functions (R190), in the order of their codes (12.5). -/
inductive LineFunction where
  | gpIn | gpOut | lidLock | ventFan | buzzer | stepMark | scaleTrigIn | runLamp
deriving DecidableEq, Repr

/-- An auxiliary line: function, level latch, and the level last seen on its pin (R190). -/
structure AuxLine where
  function : LineFunction
  latch : Bool
  pin : Bool
deriving DecidableEq, Repr

/-- A sounding buzzer sequence: phases 0, 2, 4 are pulses and 1, 3 gaps; `deadline` ends the phase (R194). -/
structure Sounding where
  phase : Nat
  deadline : Nat
deriving DecidableEq, Repr

/-- The auxiliary lines (chapter 11). `lockedAt` is the moment the lid lock last engaged (R193); `lampDue` the
moment of the run lamp's next blink (R195). -/
structure Aux where
  lines : List AuxLine
  lockEngaged : Bool
  lockedAt : Nat
  buzzer : Option Sounding
  stepMark : Bool
  lamp : Bool
  lampDue : Nat
deriving DecidableEq, Repr

/-! ## The part -/

/-- The whole part. `now`, the time since power-on in units of `Config`, and `pending`, the commands and
events that are waiting, first in first out, are the model's own (DESIGN CHOICE, log entries 2
and 3). What follows from other state has no field (DESIGN CHOICE, log entry 8). -/
structure State where
  now : Nat
  program : Program
  run : Run
  weigh : Weigh
  log : IngredientLog
  thermal : Thermal
  blade : Blade
  budget : Budget
  converter : Converter
  safety : Safety
  notices : PerPort NoticeList
  bus : Bus
  aux : Aux
  pending : List Instr
deriving DecidableEq, Repr

/-! ## Values after a power-on reset -/

/-- The step table after power-on (R20). -/
def Program.reset : Program :=
  { steps := [], results := List.replicate Config.tableSize .cleared, hold0 := none, hold1 := none }

/-- The run controller after power-on (R50). -/
def Run.reset : Run :=
  { state := .idle, cursor := 0, phase := .beforeEntry, clock := 0, active := 0, countRose := false,
    met := [], reached := none, overdueTaken := false, causes := {}, manualLevel := 0, manualHeat := none }

/-- The weighing unit after power-on (R56, R76, R77). -/
def Weigh.reset : Weigh :=
  { cal := { zero := 0, gain := 3048, tc := 0, tcal := 250 },
    policy := { pairs := 4, trigger := .auto, still := 20, motion := 60, threshold := 50 },
    kind := .motion, sampleKind := .motion, lastKind := none, historyKind := .motion, history := [],
    recent := [], reported := 0, range := .ok, settled := none, tare := 0, tareTimer := none,
    nearArmed := false, freeDue := Config.ms 100 }

/-- The ingredient log after either reset (R93), and after START but for the open flag (R79). -/
def IngredientLog.cleared : IngredientLog :=
  { isOpen := false, refs := none, entries := [], nextNumber := 1, exhausted := false, dropped := 0 }

/-- The thermal unit after power-on (R118). -/
def Thermal.reset : Thermal :=
  { table := Config.nominalTable, rh := 3527, rating := 1500, kmains := 3000, base := .none,
    element := .none, cell := .none, baseHistory := [], hot := false, mains := .lost,
    lastCrossing := none, lastPeriod := none, volts := none, lossTimer := none, setPoint := none,
    cycle := none, grant := 0, duty := 0, gate := false, vent := .off, timerDue := Config.ms 100 }

/-- The blade drive after power-on (R135): the inverter is OFF, because the mains state is LOST. -/
def Blade.reset : Blade :=
  { stir := .zero, intervalOn := false, patternTimer := none, halfTimer := none, wantDirection := none,
    commanded := 0, effective := 0, direction := .forward, ramp := none, inverter := .off, settle := none,
    lastPulse := none, lastPeriod := none, actual := 0, roseAt := none, checkDue := Config.ms 10,
    stallTimer := none, power := 0, powerSum := 0, powerCount := 0, pmot := 0, motorDue := Config.ms 50 }

/-- The mains budget after power-on (R142). -/
def Budget.reset : Budget :=
  { watts := 2000, remainder := 1960, overCount := 0, underCount := 0, ceiling := none, peak := 0 }

/-- The arbiter after either reset (R149, R150). -/
def Converter.reset : Converter :=
  { scale := none, mains := false, mainsLive := false, base := false, element := false, cell := false,
    motorI := false, work := .free, chosenAt := none }

/-- The safety block after power-on with STOP_N at a given level (R154, R165). -/
def Safety.reset (stopN : Bool) : Safety :=
  { interval := 4, samplerDue := Config.ms 4, heatPermit := ⟨false, 0⟩, motionPermit := ⟨false, 0⟩,
    lidClosed := ⟨false, 0⟩, stopN := stopN, stopLatch := stopN, limit := 1500, lease := .unarmed,
    period := 5, locked := false, count := 0, leaseDue := 0, keySequence := false }

/-- The default subscriptions (R168), empty lists and clear LOST flags (R176). -/
def noticesReset : PerPort NoticeList :=
  { console := ⟨0xFFFF, [], false⟩, safety := ⟨0x3460, [], false⟩, link := ⟨0x007B, [], false⟩,
    service := ⟨0x0000, [], false⟩ }

/-- An empty reply slot (R181). -/
def ReplySlot.empty : ReplySlot := { code := none, result := none, data := [] }

/-- The same value at every port. -/
def PerPort.all {α : Type} (x : α) : PerPort α := ⟨x, x, x, x⟩

/-- The default acceptance filters (R183). -/
def filtersReset : PerPort FilterPair :=
  { console := ⟨⟨true, 0b0000, 0b0111⟩, ⟨true, 0b1000, 0b0011⟩⟩,
    safety := ⟨⟨true, 0b0000, 0b0001⟩, ⟨false, 0b0000, 0b0000⟩⟩,
    link := ⟨⟨true, 0b0000, 0b0011⟩, ⟨false, 0b0000, 0b0000⟩⟩,
    service := ⟨⟨true, 0b0000, 0b1111⟩, ⟨false, 0b0000, 0b0000⟩⟩ }

/-- The selection of a port that has made none since the last reset (R185). -/
def Selection.status : Selection := { view := .status, number := 0 }

/-- The Bus Target Unit after power-on with ADDRSEL at a given level (R189). -/
def Bus.reset (addrsel : Bool) : Bus :=
  { highBase := addrsel, serviceEnable := false, queue := [], writing := none, acknowledged := false,
    dataAnswers := [], slots := .all .empty, views := .all .status, filters := filtersReset, staging := none,
    snapshot := none }

/-- The auxiliary lines after power-on (R197): the lid lock is ENGAGED from power-on, because Tb is
absent. -/
def Aux.reset : Aux :=
  { lines := List.replicate 8 { function := .gpIn, latch := false, pin := false }, lockEngaged := true,
    lockedAt := 0, buzzer := none, stepMark := false, lamp := false, lampDue := 0 }

/-- The part after power-on, with ADDRSEL and STOP_N at given levels; no command waits. The model's own moments
and pins have the values of log entry 28 (DESIGN CHOICE). -/
def State.powerOn (addrsel stopN : Bool) : State :=
  { now := 0, program := .reset, run := .reset, weigh := .reset, log := .cleared, thermal := .reset,
    blade := .reset, budget := .reset, converter := .reset, safety := .reset stopN,
    notices := noticesReset, bus := .reset addrsel, aux := .reset, pending := [] }

/-- The part right after power-on, with ADDRSEL low and STOP_N not asserted (DESIGN CHOICE, log entry
5). -/
def State.reset : State := State.powerOn false false

end Sys2Proof.Machine
end

