-- ==== Sys2Proof/Machine/Operands.lean ====
section
/-! DEFINITION. Operands and encodings: the manual's rounding and clamping, the codes of section 12.5, the
numbers of frames and views (R198), the step record as written (12.3) and as stored (R2 to R9), and the
records that views and replies carry (12.4). -/

namespace Sys2Proof.Machine

/-! ## Arithmetic (Conventions) -/

/-- `n / d` rounded to the nearest integer, with halves rounded away from zero. -/
def roundDiv (n : Int) (d : Nat) : Int :=
  if 0 ≤ n then ((2 * n.natAbs + d) / (2 * d) : Nat) else -((2 * n.natAbs + d) / (2 * d) : Nat)

/-- `x` clamped to `lo..hi`. -/
def clampNat (lo hi x : Nat) : Nat := if x < lo then lo else if hi < x then hi else x

/-- `x` clamped to `lo..hi`. -/
def clampInt (lo hi x : Int) : Int := if x < lo then lo else if hi < x then hi else x

/-- The middle value of three, put in order (R64). -/
def median3 (a b c : Int) : Int := max (min a b) (min (max a b) c)

/-- The elements of a list that is not empty sum to this; used for means (R98). -/
def sumInt (l : List Int) : Int := l.foldr (· + ·) 0

/-- `x` joins the end of `l`, which keeps its last `n` values (R63, R66, R98). -/
def pushLast (n : Nat) (l : List Int) (x : Int) : List Int :=
  (l ++ [x]).drop ((l ++ [x]).length - n)

/-! ## One value per port -/

/-- The value of a port. -/
def PerPort.get {α : Type} (v : PerPort α) : Port → α
  | .console => v.console
  | .safety => v.safety
  | .link => v.link
  | .service => v.service

/-- The values with that of one port replaced. -/
def PerPort.set {α : Type} (v : PerPort α) (p : Port) (x : α) : PerPort α :=
  match p with
  | .console => { v with console := x }
  | .safety => { v with safety := x }
  | .link => { v with link := x }
  | .service => { v with service := x }

/-- A function applied to the value of every port. -/
def PerPort.map {α : Type} (f : α → α) (v : PerPort α) : PerPort α :=
  { console := f v.console, safety := f v.safety, link := f v.link, service := f v.service }

/-! ## Codes (12.5) -/

/-- Run state codes. -/
def RunState.code : RunState → Nat
  | .idle => 0 | .ready => 1 | .running => 2 | .held => 3 | .done => 4 | .manual => 5 | .config => 6
  | .halted => 7 | .faulted => 8

/-- Step phase codes. -/
def Phase.code : Phase → Nat
  | .beforeEntry => 0 | .active => 1

/-- Outcome codes. -/
def StepOutcome.code : StepOutcome → Nat
  | .notRun => 0 | .active => 1 | .completed => 2 | .skipped => 3 | .aborted => 4

/-- End reason codes. -/
def EndReason.code : EndReason → Nat
  | .time => 0 | .temp => 1 | .weight => 2 | .confirm => 3

/-- Sample kind codes. -/
def Kind.code : Kind → Nat
  | .still => 0 | .angle => 1 | .motion => 2

/-- Range flag codes. -/
def RangeFlag.code : RangeFlag → Nat
  | .ok => 0 | .underrange => 1 | .overrange => 2

/-- Trigger policy codes. -/
def Trigger.code : Trigger → Nat
  | .auto => 0 | .free => 1 | .external => 2

/-- The trigger policy a byte names. -/
def Trigger.ofCode (b : Byte) : Option Trigger :=
  match b.toNat with
  | 0 => some .auto | 1 => some .free | 2 => some .external | _ => none

/-- Lease state codes. -/
def LeaseState.code : LeaseState → Nat
  | .unarmed => 0 | .live => 1 | .lapsed => 2

/-- View codes. -/
def View.code : View → Nat
  | .status => 0 | .reply => 1 | .step => 2 | .result => 3 | .log => 4 | .notices => 5 | .lines => 6
  | .config => 7

/-- The view a byte names. -/
def View.ofCode (b : Byte) : Option View :=
  match b.toNat with
  | 0 => some .status | 1 => some .reply | 2 => some .step | 3 => some .result | 4 => some .log
  | 5 => some .notices | 6 => some .lines | 7 => some .config | _ => none

/-- The port a byte names. -/
def portOfCode (b : Byte) : Option Port :=
  match b.toNat with
  | 0 => some .console | 1 => some .safety | 2 => some .link | 3 => some .service | _ => none

/-- Line function codes. -/
def LineFunction.code : LineFunction → Nat
  | .gpIn => 0 | .gpOut => 1 | .lidLock => 2 | .ventFan => 3 | .buzzer => 4 | .stepMark => 5
  | .scaleTrigIn => 6 | .runLamp => 7

/-- The line function a byte names. -/
def LineFunction.ofCode (b : Byte) : Option LineFunction :=
  match b.toNat with
  | 0 => some .gpIn | 1 => some .gpOut | 2 => some .lidLock | 3 => some .ventFan | 4 => some .buzzer
  | 5 => some .stepMark | 6 => some .scaleTrigIn | 7 => some .runLamp | _ => none

/-- Log entry kind codes. -/
def EntryKind.code : EntryKind → Nat
  | .added => 0 | .removed => 1 | .driftGain => 2 | .driftLoss => 3 | .evaporated => 4

/-- Notice kind codes. -/
def NoticeKind.code : NoticeKind → Nat
  | .prompt => 0 | .stepBegin => 1 | .stepEnd => 2 | .runDone => 3 | .held => 4 | .halted => 5
  | .fault => 6 | .nearTarget => 7 | .tareForced => 8 | .logEntry => 9 | .elementHot => 10
  | .budgetDerate => 11 | .permitChange => 12 | .sensor => 13 | .stall => 14 | .overshoot => 15

/-- The fixed priority of a notice kind (R166). -/
def NoticeKind.priority : NoticeKind → Nat
  | .halted | .fault => 7
  | .prompt | .sensor => 6
  | .held | .permitChange | .stall => 5
  | .runDone | .elementHot | .overshoot => 4
  | .nearTarget | .tareForced | .budgetDerate => 3
  | .stepBegin | .stepEnd => 2
  | .logEntry => 1

/-- Sensor source codes. -/
def SensorSource.code : SensorSource → Nat
  | .base => 0 | .element => 1 | .mainsLow => 2 | .mainsLost => 3

/-- Codes of the filtered lines. -/
def SlowLine.code : SlowLine → Nat
  | .heatPermit => 0 | .motionPermit => 1 | .lidClosed => 2

/-- Result codes. -/
def ResultCode.code : ResultCode → Nat
  | .ok => 0 | .okClamped => 1 | .okPending => 2 | .refusedClass => 3 | .refusedState => 4
  | .badFrame => 5 | .badIndex => 6 | .badValue => 7 | .full => 8 | .lockedStep => 9 | .interlock => 10
  | .locked => 11 | .sequence => 12 | .stale => 13 | .inUse => 14 | .tableOrder => 15

/-- The hold-cause set as the bits of 12.5. -/
def CauseSet.code (c : CauseSet) : Nat :=
  c.pause.toNat + 2 * c.holdPoint.toNat + 4 * c.overdue.toNat + 8 * c.stall.toNat + 16 * c.lid.toNat
    + 32 * c.permit.toNat + 64 * c.leaseNotLive.toNat + 128 * c.sensor.toNat + 256 * c.mains.toNat
    + 512 * c.ack.toNat

/-! ## Numbers of frames and views: most significant byte first, two's complement (R198) -/

/-- A one-byte number. -/
def u8 (n : Nat) : List Byte := [BitVec.ofNat 8 n]

/-- A two-byte number. -/
def u16 (n : Nat) : List Byte := halfBytes (BitVec.ofNat 16 n)

/-- A three-byte number. -/
def u24 (n : Nat) : List Byte := triBytes (BitVec.ofNat 24 n)

/-- A four-byte number. -/
def u32 (n : Nat) : List Byte := u16 (n / 65536) ++ u16 n

/-- A two-byte signed number. -/
def i16 (z : Int) : List Byte := halfBytes (BitVec.ofInt 16 z)

/-- A three-byte signed number. -/
def i24 (z : Int) : List Byte := triBytes (BitVec.ofInt 24 z)

/-- A flag in a byte of its own. -/
def flag (b : Bool) : List Byte := u8 b.toNat

/-- A step index or the marker 0xFF (R198). -/
def optIndex (o : Option Nat) : List Byte := u8 (o.getD 255)

/-- A 16-bit temperature or the marker −32,768 (R198). -/
def optTemp (o : Option Int) : List Byte := i16 (o.getD (-32768))

/-- `l` brought to `n` bytes, the unused ones 0 (12.4). -/
def padTo (n : Nat) (l : List Byte) : List Byte := (l ++ List.replicate n 0).take n

/-! ## The step record as written (12.3, R8, R199) and as stored (R2 to R9) -/

/-- The end mode that bits 1..0 of the flags byte name (12.3). -/
def endModeOf (flags : Byte) : Option EndMode :=
  match flags.toNat % 4 with
  | 0 => some .any | 1 => some .all | _ => none

/-- The direction that bits 1..0 of the mode byte name (12.3). Bits 7..4, which 12.3 does not name, are ignored
when a record is written (DESIGN CHOICE, log entry 30). -/
def directionOf (mode : Byte) : Option Direction :=
  match mode.toNat % 4 with
  | 0 => some .forward | 1 => some .reverse | _ => none

/-- The pattern that bits 3..2 of the mode byte name, with the on and off times of an INTERVAL clamped to
1..60 (12.3, R4, R9). Bits 7..4 are ignored (DESIGN CHOICE, log entry 30). -/
def patternOf (mode on off : Byte) : Option Pattern :=
  match mode.toNat / 4 % 4 with
  | 0 => some .continuous
  | 1 => some (.interval (clampNat 1 60 on.toNat) (clampNat 1 60 off.toNat))
  | 2 => some .knead
  | _ => none

/-- The highest level accepted: 4 with REVERSE or KNEAD, and 12 otherwise (R4). -/
def topLevel (d : Direction) (p : Pattern) : Nat := if d = .reverse ∨ p = .knead then 4 else 12

/-- The start that a byte names (12.3). -/
def timeStartOf (b : Byte) : Option TimeStart :=
  match b.toNat with
  | 0 => some .fromEntry | 1 => some .fromReached | _ => none

/-- The power-on band that a written 0 selects (R3). -/
def defaultBand : Nat := 50

/-- What a part of the record reads as: the part as stored, whether a field of it was clamped, and the bytes
that follow it. `none` where the bytes run out or a choice is unknown. -/
abbrev PartRead (α : Type) := Option (Option α × Bool × List Byte)

/-- The Heat part, clamped (R3, R9). -/
def readHeat (present : Bool) (bytes : List Byte) : PartRead HeatPart :=
  if present then
    match bytes with
    | t1 :: t0 :: c1 :: c0 :: b :: rest =>
      let t := (halfOf t1 t0).toNat
      let c := (halfOf c1 c0).toNat
      let band := if b.toNat = 0 then defaultBand else b.toNat
      let part : HeatPart := { target := clampNat 300 1600 t, cap := clampNat 50 1500 c, band := clampNat 10 200 band }
      some (some part, decide (part ≠ ⟨t, c, band⟩), rest)
    | _ => none
  else some (none, false, bytes)

/-- The Stir part, clamped; the times count as clamped under INTERVAL alone (R4, R9). -/
def readStir (present : Bool) (bytes : List Byte) : PartRead StirPart :=
  if present then
    match bytes with
    | l :: mode :: on :: off :: rest =>
      match directionOf mode, patternOf mode on off with
      | some d, some p =>
        let level := clampNat 1 (topLevel d p) l.toNat
        let timesClamped := match p with
          | .interval onTime offTime => onTime != on.toNat || offTime != off.toNat
          | _ => false
        some (some { level := level, direction := d, pattern := p }, level != l.toNat || timesClamped, rest)
      | _, _ => none
    | _ => none
  else some (none, false, bytes)

/-- The Weigh part, clamped (R5, R9). -/
def readWeigh (present : Bool) (bytes : List Byte) : PartRead WeighPart :=
  if present then
    match bytes with
    | t2 :: t1 :: t0 :: o1 :: o0 :: rest =>
      let t := (triOf t2 t1 t0).toNat
      let o := (halfOf o1 o0).toNat
      let part : WeighPart := { target := clampNat 10 100000 t, tolerance := clampNat 0 5000 o }
      some (some part, decide (part ≠ ⟨t, o⟩), rest)
    | _ => none
  else some (none, false, bytes)

/-- The Time part, clamped (R6, R9). -/
def readTime (present : Bool) (bytes : List Byte) : PartRead TimePart :=
  if present then
    match bytes with
    | d1 :: d0 :: s :: rest =>
      match timeStartOf s with
      | some start =>
        let d := (halfOf d1 d0).toNat
        some (some { duration := clampNat 1 14400 d, start := start }, clampNat 1 14400 d != d, rest)
      | none => none
    | _ => none
  else some (none, false, bytes)

/-- The Prompt part (R7). -/
def readPrompt (present : Bool) (bytes : List Byte) : PartRead Byte :=
  if present then
    match bytes with
    | c :: rest => some (some c, false, rest)
    | [] => none
  else some (none, false, bytes)

/-- The header's limit, clamped, when limit present is set (R2, R9, R199). -/
def readLimit (flags : Byte) (h1 h0 : Byte) : Option Nat × Bool :=
  if flags.getLsbD 2 then
    let l := (halfOf h1 h0).toNat
    (some (clampNat 1 14400 l), clampNat 1 14400 l != l)
  else (none, false)

/-- A record that bears a condition, and whose FROM_REACHED Time part has a Heat part beside it (R8). -/
def StepRecord.sound (r : StepRecord) : Bool :=
  (r.heat.isSome || r.weigh.isSome || r.time.isSome || r.prompt.isSome) &&
  match r.time with
  | some t => t.start != .fromReached || r.heat.isSome
  | none => true

/-- The record that PUT STEP stores, clamped, from the bytes that carry it: `none` for a structural fault
(R8, R9, R199). The auto-tare flag is kept with a Weigh part alone (R2), and the CLAMPED flag is set when a
field was clamped. -/
def readRecord : List Byte → Option StepRecord
  | label :: flags :: h1 :: h0 :: presence :: parts => do
    let endMode ← endModeOf flags
    let (limit, k0) := readLimit flags h1 h0
    let (heat, k1, r1) ← readHeat (presence.getLsbD 0) parts
    let (stir, k2, r2) ← readStir (presence.getLsbD 1) r1
    let (weigh, k3, r3) ← readWeigh (presence.getLsbD 2) r2
    let (time, k4, r4) ← readTime (presence.getLsbD 3) r3
    let (prompt, _, r5) ← readPrompt (presence.getLsbD 4) r4
    let rec_ : StepRecord :=
      { label := label, endMode := endMode, limit := limit, autoTare := flags.getLsbD 3 && weigh.isSome,
        clamped := k0 || k1 || k2 || k3 || k4, heat := heat, stir := stir, weigh := weigh, time := time,
        prompt := prompt }
    if r5 = [] ∧ presence.toNat < 32 ∧ rec_.sound then some rec_ else none
  | _ => none

/-- The bytes of a stored record (12.3). Bits 7..4 of the Stir part's mode byte are given as 0 (DESIGN CHOICE,
log entry 30). -/
def recordBytes (r : StepRecord) : List Byte :=
  let endBit := match r.endMode with
    | .any => 0
    | .all => 1
  let flags := endBit + 4 * r.limit.isSome.toNat + 8 * r.autoTare.toNat + 16 * r.clamped.toNat
  let presence := r.heat.isSome.toNat + 2 * r.stir.isSome.toNat + 4 * r.weigh.isSome.toNat
    + 8 * r.time.isSome.toNat + 16 * r.prompt.isSome.toNat
  let heat := match r.heat with
    | some h => u16 h.target ++ u16 h.cap ++ u8 h.band
    | none => []
  let stir := match r.stir with
    | some t =>
      let d := match t.direction with
        | .forward => 0
        | .reverse => 1
      match t.pattern with
      | .continuous => u8 t.level ++ u8 d ++ u8 0 ++ u8 0
      | .interval on off => u8 t.level ++ u8 (d + 4) ++ u8 on ++ u8 off
      | .knead => u8 t.level ++ u8 (d + 8) ++ u8 0 ++ u8 0
    | none => []
  let weigh := match r.weigh with
    | some w => u24 w.target ++ u16 w.tolerance
    | none => []
  let time := match r.time with
    | some t => u16 t.duration ++ (match t.start with
      | .fromEntry => u8 0
      | .fromReached => u8 1)
    | none => []
  let prompt := match r.prompt with
    | some c => [c]
    | none => []
  [r.label] ++ u8 flags ++ u16 (r.limit.getD 0) ++ u8 presence ++ heat ++ stir ++ weigh ++ time ++ prompt

/-! ## Records that views and replies carry (12.4) -/

/-- A result section, as the RESULT view's body (12.4). -/
def resultBytes (r : StepResult) : List Byte :=
  u8 r.outcome.code ++ u8 ((r.reason.map EndReason.code).getD 255) ++ u24 r.activeTime ++ optTemp r.peak
    ++ i24 (r.netAtExit.getD 0)
    ++ u8 (r.overshoot.toNat + 2 * r.forcedTare.toNat + 4 * r.netAtExit.isSome.toNat)

/-- An entry slot of the LOG view (12.4). Where the slot holds no entry the number reads 0, and so do the other 14
bytes, of which 12.4 gives no content (DESIGN CHOICE, log entry 36). -/
def entryBytes : Option Entry → List Byte
  | some e => u16 e.number ++ u8 e.step ++ u8 e.kind.code ++ i24 e.delta ++ i24 e.gross ++ u32 e.time
      ++ optTemp e.temp
  | none => List.replicate 16 0

/-- The three value bytes of a notice record (12.4). A value that does not fill the three bytes stands in the
last of them, and those before it are 0 (DESIGN CHOICE, log entry 34). -/
def noticeValueBytes : Option NoticeValue → List Byte
  | some (.mass dg) => i24 dg
  | some (.temperature t) => u8 0 ++ i16 t
  | some (.causes c) => u8 0 ++ u16 c.code
  | some (.promptCode c) => [0, 0, c]
  | some (.source s) => [0, 0] ++ u8 s.code
  | some (.lineChange l a) => [0, 0] ++ u8 (l.code + 128 * a.toNat)
  | none => [0, 0, 0]

/-- A notice record (12.4). -/
def noticeBytes (n : Notice) : List Byte :=
  u8 n.kind.code ++ u8 n.kind.priority ++ optIndex n.index ++ u8 n.count ++ u32 n.time
    ++ flag n.value.isSome ++ noticeValueBytes n.value

/-- The calibration record, as LOAD SCALE CALIBRATION carries it (12.2). -/
def calibrationBytes (c : Calibration) : List Byte := i24 c.zero ++ u16 c.gain ++ i16 c.tc ++ i16 c.tcal

/-- The scale policy, as SET SCALE POLICY carries it (12.2). -/
def policyBytes (p : ScalePolicy) : List Byte :=
  u8 p.pairs ++ u8 p.trigger.code ++ u16 p.still ++ u16 p.motion ++ u16 p.threshold

/-- A filter, as the CONFIG view carries it (12.4). -/
def filterBytes (f : Filter) : List Byte := flag f.enabled ++ u8 (16 * f.code.toNat + f.mask.toNat)

/-- Both filters of a port, A then B (12.4). -/
def filterPairBytes (f : FilterPair) : List Byte := filterBytes f.a ++ filterBytes f.b

/-- A hold-point slot (12.4). -/
def holdBytes (p : Program) : List Byte := optIndex p.hold0 ++ optIndex p.hold1

/-- A thermistor table, four bytes a point (12.4). -/
def tableBytes : List (Nat × Int) → List Byte
  | [] => []
  | (c, t) :: rest => u16 c ++ i16 t ++ tableBytes rest

/-- The place of a condition in the order of latching, 1 to 4, or 0 (12.4). -/
def metPlace (met : List Condition) (c : Condition) : Nat :=
  if c ∈ met then met.idxOf c + 1 else 0

/-- The met-condition set as reply data (12.4). -/
def metBytes (met : List Condition) : List Byte :=
  u8 (metPlace met .tempReached) ++ u8 (metPlace met .weightMet) ++ u8 (metPlace met .timeDone)
    ++ u8 (metPlace met .confirmed)

end Sys2Proof.Machine
end

