-- ==== Sys2Proof/Machine/Flags.lean ====
section
/-! DEFINITION. What the part's blocks derive from the state they hold: whether a step needs heat or motion,
the interlock conditions, heat and motion enable, the commanded and target levels, the sample kind, the mass
shown, the driven level of a line. Each is a function of the state; nothing here changes it. -/

namespace Sys2Proof.Machine

/-! ## The run -/

/-- A run is in progress in RUNNING and HELD (R21). -/
def RunState.inRun : RunState → Bool
  | .running | .held => true
  | _ => false

/-- The program length (R1). -/
def Program.length (p : Program) : Nat := p.steps.length

/-- The record at the cursor, if the table holds one: below the program length, it does (log entry 22). -/
def State.record (s : State) : Option StepRecord := s.program.steps[s.run.cursor]?

/-- The current step is ACTIVE (R22). -/
def State.stepActive (s : State) : Bool := s.run.state.inRun && decide (s.run.phase = .active)

/-- The record of the current step while it is ACTIVE. -/
def State.activeRecord (s : State) : Option StepRecord := if s.stepActive then s.record else none

/-- A step with a Heat part needs heat (R3). -/
def StepRecord.needsHeat (r : StepRecord) : Bool := r.heat.isSome

/-- A step with a Stir part needs motion (R4). -/
def StepRecord.needsMotion (r : StepRecord) : Bool := r.stir.isSome

/-- The current step is ACTIVE and needs heat. -/
def State.stepNeedsHeat (s : State) : Bool := s.activeRecord.any StepRecord.needsHeat

/-- The current step is ACTIVE and needs motion. -/
def State.stepNeedsMotion (s : State) : Bool := s.activeRecord.any StepRecord.needsMotion

/-- The step index of a notice: the cursor while a run is in progress, and otherwise none (R166). -/
def State.runIndex (s : State) : Option Nat := if s.run.state.inRun then some s.run.cursor else none

/-- READY with a program, IDLE without one (R41, R47, R48, R50). -/
def State.restState (s : State) : RunState := if s.program.length = 0 then .idle else .ready

/-! ## The hold-cause set (R33) -/

/-- The members of either set. -/
def CauseSet.union (a b : CauseSet) : CauseSet :=
  { pause := a.pause || b.pause, holdPoint := a.holdPoint || b.holdPoint, overdue := a.overdue || b.overdue,
    stall := a.stall || b.stall, lid := a.lid || b.lid, permit := a.permit || b.permit,
    leaseNotLive := a.leaseNotLive || b.leaseNotLive, sensor := a.sensor || b.sensor,
    mains := a.mains || b.mains, ack := a.ack || b.ack }

/-- The interlock causes of a set (R33). -/
def CauseSet.interlocks (c : CauseSet) : CauseSet :=
  { lid := c.lid, permit := c.permit, leaseNotLive := c.leaseNotLive, sensor := c.sensor, mains := c.mains }

/-- The user causes and the marker ACK of a set (R33). -/
def CauseSet.others (c : CauseSet) : CauseSet :=
  { pause := c.pause, holdPoint := c.holdPoint, overdue := c.overdue, stall := c.stall, ack := c.ack }

/-- The set has no member. -/
def CauseSet.isEmpty (c : CauseSet) : Bool := decide (c = {})

/-- The set holds an interlock cause (R37). -/
def CauseSet.hasInterlock (c : CauseSet) : Bool := !c.interlocks.isEmpty

/-- The interlock causes with ACK, or nothing when there is none (R33). -/
def CauseSet.withAck (c : CauseSet) : CauseSet := { c with ack := c.ack || c.hasInterlock }

/-! ## Temperatures -/

/-- The base temperature Tb: the rounded mean of the base history while the BASE status is VALID, and
absent otherwise (R98). -/
def Thermal.tb (t : Thermal) : Option Int :=
  match t.base with
  | .valid _ => some (roundDiv (sumInt t.baseHistory) t.baseHistory.length)
  | .none | .invalid => none

/-- A VALID status (R94); NONE counts as not VALID. -/
def Reading.isValid : Reading → Bool
  | .valid _ => true
  | .none | .invalid => false

/-- Tb is 600 or above, or absent: the hot cap, the slow up ramp and the lid lock (R122, R193). -/
def Thermal.hotBase (t : Thermal) : Bool :=
  match t.tb with
  | some v => decide (600 ≤ v)
  | none => true

/-! ## Conditions of the interlocks (R34, R46, R110, R121) -/

/-- The lease is LIVE. -/
def State.leaseLive (s : State) : Bool := decide (s.safety.lease = .live)

/-- The mains state is LOST. -/
def State.mainsLost (s : State) : Bool := decide (s.thermal.mains = .lost)

/-- The interlock causes whose condition holds and concerns the current step (R34). -/
def State.stepInterlocks (s : State) : CauseSet :=
  { lid := s.stepActive && !s.safety.lidClosed.active,
    permit := (s.stepNeedsHeat && !s.safety.heatPermit.active) ||
      (s.stepNeedsMotion && !s.safety.motionPermit.active),
    leaseNotLive := (s.stepNeedsHeat || s.stepNeedsMotion) && !s.leaseLive,
    sensor := s.stepNeedsHeat && !s.thermal.base.isValid,
    mains := s.stepActive && s.mainsLost }

/-- The interlock causes whose condition concerns a manual request of this level, with or without heat, and
holds (R46 stage 4). -/
def State.manualInterlocks (s : State) (level : Nat) (heat : Bool) : CauseSet :=
  { lid := !s.safety.lidClosed.active,
    permit := (decide (0 < level) && !s.safety.motionPermit.active) || (heat && !s.safety.heatPermit.active),
    leaseNotLive := (decide (0 < level) || heat) && !s.leaseLive,
    sensor := heat && !s.thermal.base.isValid,
    mains := s.mainsLost }

/-- Heat is enabled (R110). -/
def State.heatEnabled (s : State) : Bool :=
  !s.safety.stopLatch && s.safety.heatPermit.active && s.safety.lidClosed.active && s.leaseLive &&
    s.thermal.base.isValid && s.thermal.element.isValid && !s.mainsLost &&
    (s.run.state.inRun || decide (s.run.state = .manual)) && !s.thermal.hot

/-- Motion is enabled (R121). -/
def State.motionEnabled (s : State) : Bool :=
  !s.safety.stopLatch && s.safety.motionPermit.active && s.safety.lidClosed.active && s.leaseLive &&
    !s.mainsLost

/-! ## Heating -/

/-- The lower of a step's target and the keep-warm target 650 (R35). -/
def keepWarmTarget (target : Nat) : Nat := min target 650

/-- The heat set point that the run state and the current step give (R106). -/
def State.heatPoint (s : State) : Option HeatPoint :=
  match s.run.state with
  | .running => (s.activeRecord.bind StepRecord.heat).map fun h => ⟨h.target, h.cap, h.band⟩
  | .held => (s.activeRecord.bind StepRecord.heat).map fun h => ⟨keepWarmTarget h.target, h.cap, h.band⟩
  | .manual => s.run.manualHeat.map fun h => ⟨h.1, h.2, defaultBand⟩
  | _ => none

/-- The heater request (R107). -/
def heaterRequest (setPoint : Option HeatPoint) (tb : Option Int) : Nat :=
  match setPoint, tb with
  | some p, some t =>
    let e := (p.target : Int) - t
    if (p.band : Int) ≤ e then p.cap else if e ≤ 0 then 0 else p.cap * e.natAbs / p.band
  | _, _ => 0

/-- The grant a window start computes (R111). -/
def State.computedGrant (s : State) : Nat :=
  if s.heatEnabled then
    min (heaterRequest s.thermal.setPoint s.thermal.tb)
      (min s.thermal.rating (min s.safety.limit s.budget.remainder))
  else 0

/-- The full power of the element at the measured voltage (R112). -/
def Thermal.fullPower (t : Thermal) : Nat := t.volts.getD 0 * t.volts.getD 0 / t.rh

/-- The duty of a window (R112). -/
def dutyOf (grant full : Nat) : Nat :=
  if grant = 0 then 0 else clampNat 0 50 (roundDiv (grant * 50 : Nat) full).toNat

/-- Cycle `k` of a window of duty `d` is marked (R113). -/
def marked (k d : Nat) : Bool := decide ((k + 1) * d / 50 - k * d / 50 = 1)

/-- The gate fires for a cycle that is marked while heat is enabled and the grant is not cut (R113). -/
def State.fires (s : State) (k : Nat) : Bool :=
  marked k s.thermal.duty && s.heatEnabled && decide (0 < s.thermal.grant)

/-- The fan condition (R117). -/
def Thermal.fanCondition (t : Thermal) : Bool := decide (0 < t.grant) && t.tb.any fun v => decide (900 ≤ v)

/-! ## Blade drive -/

/-- The speed a level stands for, in rpm (R119). -/
def rpmOf (level : Nat) : Nat := Config.rpmTable.getD level 9000

/-- The level the pattern of the set point asks for at this moment (R125, R126). -/
def Blade.asked (b : Blade) : Nat :=
  match b.stir.pattern with
  | .interval _ _ => if b.intervalOn then b.stir.level else 0
  | .continuous | .knead => b.stir.level

/-- The commanded level (R121). -/
def State.commandedLevel (s : State) : Nat :=
  if s.motionEnabled && (decide (s.run.state = .running) || decide (s.run.state = .manual)) then
    s.blade.asked
  else 0

/-- The direction asked for differs from the effective direction (R124). -/
def Blade.reversing (b : Blade) : Bool := b.wantDirection.any fun d => decide (d ≠ b.direction)

/-- The target level: held at 0 while a change of direction is in progress (R124), and otherwise the least
of the commanded level, the hot cap and the derate ceiling (R122). -/
def State.targetLevel (s : State) : Nat :=
  if s.blade.reversing then 0
  else min s.blade.commanded (min (if s.thermal.hotBase then 10 else 12) (s.budget.ceiling.getD 12))

/-- The up interval of the ramp (R123). -/
def Thermal.upInterval (t : Thermal) : Nat := if t.hotBase then Config.sec 1 else Config.thirdSec

/-- The wait after the last accepted pulse: 0.5 s (R54, R127). -/
def restWait : Nat := Config.ms 500

/-- 0.5 s have passed since the last accepted pulse, or none has been accepted (R127). -/
def State.rested (s : State) : Bool := s.blade.lastPulse.all fun t => decide (t + restWait ≤ s.now)

/-- The blade is stopped (R54); before the first pulse the 0.5 s are counted from power-on (R77). -/
def State.bladeStopped (s : State) : Bool :=
  decide (s.blade.commanded = 0) && decide (s.blade.lastPulse.getD 0 + restWait ≤ s.now)

/-- A line carries LID_LOCK (R128). -/
def Aux.hasLidLock (a : Aux) : Bool := a.lines.any fun l => decide (l.function = .lidLock)

/-- The time the lid lock must have been engaged before a rise from 0 (R128). -/
def settleTime : Nat := Config.ms 300

/-- A rise of the effective level from 0 must wait for the lid-lock settle (R128). -/
def State.mustSettle (s : State) : Bool :=
  s.aux.hasLidLock && s.aux.lockEngaged && decide (s.now < s.aux.lockedAt + settleTime)

/-- The stall condition (R131). -/
def Blade.stallCondition (b : Blade) : Bool :=
  decide (1 ≤ b.commanded) && decide (b.inverter = .driving) && decide (1 ≤ b.effective) &&
    decide (4 * b.actual < rpmOf b.effective)

/-- The condition of the lid lock (R193). -/
def State.lockCondition (s : State) : Bool :=
  decide (0 < s.blade.commanded) || decide (0 < s.blade.actual) || s.thermal.hotBase

/-- The distance of two speeds. -/
def rpmDistance (a b : Nat) : Nat := (a - b) + (b - a)

/-- The actual speed level: the level whose rpm is nearest, the lower of two equally near (R130). -/
def actualLevel (rpm : Nat) : Nat :=
  (List.range 13).foldl (fun best l => if rpmDistance (rpmOf l) rpm < rpmDistance (rpmOf best) rpm then l else best) 0

/-! ## Weighing -/

/-- The current kind for a trigger policy, a commanded level and a blade stopped or not (R54). -/
def kindFor (policy : Trigger) (commanded : Nat) (stopped : Bool) : Kind :=
  if stopped then .still
  else match policy with
    | .auto => if commanded = 0 then .motion else if commanded ≤ 5 then .angle else .motion
    | .free => .motion
    | .external => .angle

/-- The current kind as it is evaluated now (R54). -/
def State.kindNow (s : State) : Kind := kindFor s.weigh.policy.trigger s.blade.commanded s.bladeStopped

/-- The kind the STATUS view shows (R54). -/
def Weigh.shownKind (w : Weigh) : Kind := w.lastKind.getD w.kind

/-- A net, limited to 200,000 (R62). -/
def limitNet (net : Int) : Int := min net Config.grossMax

/-- The net shown (R62). -/
def Weigh.net (w : Weigh) : Int := limitNet (w.reported - w.tare)

/-- The range flag shown (R62). -/
def Weigh.shownRange (w : Weigh) : RangeFlag :=
  if Config.grossMax < w.reported - w.tare then .overrange else w.range

/-- A tare is pending (R67). -/
def Weigh.tarePending (w : Weigh) : Bool := w.tareTimer.isSome

/-- The band of a kind; MOTION has none (R64). -/
def ScalePolicy.band (p : ScalePolicy) : Kind → Option Nat
  | .still => some p.still
  | .angle => some p.motion
  | .motion => none

/-- The settled gross of a history of one kind, when it is stable (R64). -/
def stableMedian (policy : ScalePolicy) (kind : Kind) : List Int → Option Int
  | [a, b, c] =>
    match policy.band kind with
    | some band => if max (max a b) c - min (min a b) c ≤ (band : Int) then some (median3 a b c) else none
    | none => none
  | _ => none

/-! ## Bus -/

/-- The 7-bit address of a port (R177). -/
def Bus.addressOf (b : Bus) (p : Port) : Nat :=
  (if b.highBase then 0x64 else 0x44) + (match p with
    | .console => 0
    | .safety => 1
    | .link => 2
    | .service => 3)

/-- The address of a port is enabled (R177). -/
def Bus.enabled (b : Bus) (p : Port) : Bool := decide (p ≠ .service) || b.serviceEnable

/-- The port that answers at an address, if one does (R177). -/
def Bus.portAt (b : Bus) (address : Nat) : Option Port :=
  [Port.console, Port.safety, Port.link, Port.service].find? fun p =>
    b.enabled p && decide (b.addressOf p = address)

/-- The queued count of a port's reply slot: its frames in the queue (R181). -/
def Bus.queuedCount (b : Bus) (p : Port) : Nat := b.queue.countP fun f => decide (f.port = p)

/-- Slot state code of a port: PENDING while its queued count is above 0, DONE once a frame has executed,
EMPTY otherwise (R181, 12.5). -/
def Bus.slotState (b : Bus) (p : Port) : Nat :=
  if 0 < b.queuedCount p then 1 else if (b.slots.get p).result.isSome then 2 else 0

/-- A filter passes a class (R183). -/
def Filter.passes (f : Filter) (cls : BitVec 4) : Bool :=
  f.enabled && decide ((f.code ^^^ cls) &&& ~~~f.mask = 0)

/-- A pair of filters passes a class (R183). -/
def FilterPair.passes (f : FilterPair) (cls : BitVec 4) : Bool := f.a.passes cls || f.b.passes cls

/-- The SAFETY class (R183). -/
def safetyClass : BitVec 4 := 12

/-- The CONFIG class, whose commands are executed in CONFIG (R48). -/
def configClass : BitVec 4 := 10

/-- A class is accepted from a port (R183). -/
def Bus.accepts (b : Bus) (p : Port) (cls : BitVec 4) : Bool :=
  if cls = safetyClass then decide (p = .safety) else (b.filters.get p).passes cls

/-- The class of a command code: the code divided by 16 (R182). -/
def classOf (code : Byte) : BitVec 4 := code.extractLsb' 4 4

/-- Stages 1 and 2 of R182 fail: the frame is marked too long, or its bytes spell no command. -/
def Frame.isBad (f : Frame) : Bool := f.tooLong || (decodeFrame f.port false f.bytes).isNone

/-! ## Auxiliary lines -/

/-- The buzzer sounds a pulse (R194). -/
def Aux.buzzing (a : Aux) : Bool := a.buzzer.any fun b => decide (b.phase % 2 = 0)

/-- The vent fan runs (R117). -/
def Vent.running : Vent → Bool
  | .off => false
  | .on | .runout _ => true

/-- The level a line drives, `none` under an input function, which does not drive its pin (R190). -/
def State.drivenLevel (s : State) (l : AuxLine) : Option Bool :=
  match l.function with
  | .gpIn | .scaleTrigIn => none
  | .gpOut => some l.latch
  | .lidLock => some s.aux.lockEngaged
  | .ventFan => some s.thermal.vent.running
  | .buzzer => some s.aux.buzzing
  | .stepMark => some s.aux.stepMark
  | .runLamp => some s.aux.lamp

/-- The read-back value of a line (R190). -/
def State.readBack (s : State) (l : AuxLine) : Bool := (s.drivenLevel l).getD l.pin

/-- The functions a line may take (R190). -/
def allowedFunctions : Nat → List LineFunction
  | 0 => [.gpIn, .gpOut, .lidLock]
  | 1 => [.gpIn, .gpOut, .lidLock, .ventFan]
  | 2 => [.gpIn, .gpOut, .ventFan, .buzzer]
  | 3 => [.gpIn, .gpOut, .buzzer, .stepMark]
  | 4 => [.gpIn, .gpOut, .scaleTrigIn]
  | 5 => [.gpIn, .gpOut, .scaleTrigIn, .runLamp]
  | 6 => [.gpIn, .gpOut, .stepMark, .runLamp]
  | 7 => [.gpIn, .gpOut]
  | _ => []

/-- The attention output of a port is asserted; the Service port has none (R174). -/
def State.attention (s : State) (p : Port) : Bool :=
  decide (p ≠ .service) && !(s.notices.get p).entries.isEmpty

/-- The conversions done of a burst in progress, one every 2.0 ms, of its 2N (R144, R145). -/
def State.conversionsDone (s : State) : Nat :=
  match s.converter.work with
  | .burst pairs began => min ((s.now - began) / Config.ms 2) (2 * pairs)
  | .free | .single .. => 0

end Sys2Proof.Machine
end

