-- ==== Sys2Proof/Machine/Ops.lean ====
section
/-! DEFINITION. The operations that every block shares: the passing of time, the sending of a notice, the
arbiter of the converter, the result section at the cursor, and the interpreter's path of a frame from the
queue to its reply slot. -/

namespace Sys2Proof.Machine

/-- The outcome of a meaning: the part always goes on. -/
abbrev Step := Host.Outcome State Fault Refusal

/-! ## Time -/

/-- `dt` microseconds pass. -/
def State.after (s : State) (dt : Nat) : State := { s with now := s.now + Config.us dt }

/-- A timer of the part runs out: time reaches its moment, if it has not passed it already. -/
def State.reach (s : State) (moment : Nat) : State := { s with now := max s.now moment }

/-! ## Notices (R166 to R172) -/

/-- An entry of the same kind and step index (R170). -/
def Notice.matches (n m : Notice) : Bool := decide (m.kind = n.kind) && decide (m.index = n.index)

/-- A notice coalesced into an entry: the count rises to 255 at most, and the value is replaced (R170). -/
def Notice.coalesce (n m : Notice) : Notice := { m with count := min 255 (m.count + 1), value := n.value }

/-- A record inserted after every entry of equal or higher priority and before the first of lower (R169). -/
def insertNotice (n : Notice) : List Notice → List Notice
  | [] => [n]
  | m :: rest =>
    if n.kind.priority ≤ m.kind.priority then m :: insertNotice n rest else n :: m :: rest

/-- The lowest priority held is lower than the notice's: it displaces the last entry (R171). -/
def displaces (n : Notice) (l : List Notice) : Bool :=
  l.getLast?.any fun m => decide (m.kind.priority < n.kind.priority)

/-- A notice offered to a port's list: coalesced, inserted, displacing, or discarded (R170, R171). -/
def NoticeList.offer (l : NoticeList) (n : Notice) : NoticeList :=
  if l.entries.any n.matches then
    { l with entries := l.entries.map fun m => if n.matches m then n.coalesce m else m }
  else if l.entries.length < Config.noticePlaces then { l with entries := insertNotice n l.entries }
  else if displaces n l.entries then { l with entries := insertNotice n l.entries.dropLast, lost := true }
  else { l with lost := true }

/-- A notice offered to a port's list when its subscription holds the kind (R168). -/
def NoticeList.receive (l : NoticeList) (n : Notice) : NoticeList :=
  if l.subscription.getLsbD n.kind.code then l.offer n else l

/-- A block sends a notice: a new record of count 1 and the present run clock, offered to the four ports
(R166, R167). -/
def State.send (s : State) (kind : NoticeKind) (index : Option Nat) (value : Option NoticeValue) : State :=
  let n : Notice := { kind := kind, index := index, count := 1, time := s.run.clock, value := value }
  { s with notices := s.notices.map fun l => l.receive n }

/-! ## The shared converter (R144 to R147) -/

/-- The work an arbiter's choice begins: the waiting request of the highest priority, with BASE before
ELEMENT before CELL (R144). A request chosen leaves its waiting place. -/
def Converter.begin (c : Converter) (now : Nat) : Converter :=
  let ends := now + Config.us 500
  match c.scale with
  | some n => { c with scale := none, work := .burst n now }
  | none =>
    if c.mains then { c with mains := false, work := .single .mains c.mainsLive ends }
    else if c.base then { c with base := false, work := .single .base true ends }
    else if c.element then { c with element := false, work := .single .element true ends }
    else if c.cell then { c with cell := false, work := .single .cell true ends }
    else if c.motorI then { c with motorI := false, work := .single .motorI true ends }
    else c

/-- The converter is free. -/
def Converter.isFree (c : Converter) : Bool := decide (c.work = .free)

/-- The arbiter chooses when the converter becomes free (R144). -/
def Converter.choose (c : Converter) (now : Nat) : Converter :=
  if c.isFree then { c.begin now with chosenAt := none } else c

/-- The arbiter chooses when a request arrives at a free converter (R144). -/
def Converter.arrive (c : Converter) (now : Nat) : Converter :=
  if c.isFree then { c.begin now with chosenAt := some now } else c

/-- A single conversion's request back in the waiting place of its channel. -/
def Converter.waitFor (c : Converter) (channel : Channel) (live : Bool) : Converter :=
  match channel with
  | .mains => { c with mains := true, mainsLive := live }
  | .base => { c with base := true }
  | .element => { c with element := true }
  | .cell => { c with cell := true }
  | .motorI => { c with motorI := true }

/-- The work in progress back among the waiting requests. -/
def Converter.unbegin (c : Converter) : Converter :=
  let c1 := match c.work with
    | .free => c
    | .single channel live _ => c.waitFor channel live
    | .burst n _ => { c with scale := some n }
  { c1 with work := .free, chosenAt := none }

/-- Before a request of this moment is placed: work that was chosen on an arrival at this same moment waits
again, because requests that arrive together at a free converter are all waiting when the arbiter chooses
(R144; DEDUCED, log entry 17). -/
def Converter.recall (c : Converter) (now : Nat) : Converter :=
  if c.chosenAt = some now then c.unbegin else c

/-- The arbiter's choice in the part, when the converter may have become free (R144, R145). -/
def State.arbitrate (s : State) : State := { s with converter := s.converter.choose s.now }

/-- Requests of one moment are placed by `place`, and the arbiter chooses among all that wait (R144). -/
def State.request (s : State) (place : Converter → Converter) : State :=
  { s with converter := (place (s.converter.recall s.now)).arrive s.now }

/-- A burst is in progress. -/
def Work.isBurst : Work → Bool
  | .burst .. => true
  | .free | .single .. => false

/-- A SCALE trigger: discarded while a SCALE request waits or a burst is in progress, and otherwise a
request with the N of the policy, whose kind is the current kind (R51, R53, R147). -/
def State.trigger (s : State) : State :=
  if s.converter.scale.isSome || s.converter.work.isBurst then s
  else
    State.request { s with weigh := { s.weigh with sampleKind := s.weigh.kind } }
      fun c => { c with scale := some s.weigh.policy.pairs }

/-- The window's MAINS request is placed, merging with one that waits (R104, R146). -/
def State.requestMains (s : State) : State :=
  s.request fun c => { c with mains := true, mainsLive := true }

/-- The window that a MAINS request or conversion was made for is abandoned (R103, R104, R146). -/
def Converter.orphanMains (c : Converter) : Converter :=
  { c with
    mainsLive := false
    work := match c.work with
      | .single .mains _ ends => .single .mains false ends
      | w => w }

/-! ## The result section at the cursor (R11) -/

/-- The result section of an index replaced by a function of itself. -/
def Program.editResult (p : Program) (i : Nat) (f : StepResult → StepResult) : Program :=
  { p with results := p.results.set i (f (p.results.getD i .cleared)) }

/-- The result section at the cursor replaced by a function of itself. -/
def State.editResult (s : State) (f : StepResult → StepResult) : State :=
  { s with program := s.program.editResult s.run.cursor f }

/-- A new base temperature is a candidate for the peak while the result at the cursor has outcome ACTIVE in
RUNNING, HELD or HALTED (R11, R98; DEDUCED, log entry 24). -/
def State.notePeak (s : State) : State :=
  match s.thermal.tb with
  | some t =>
    if (s.run.state.inRun || decide (s.run.state = .halted)) &&
        decide ((s.program.results.getD s.run.cursor .cleared).outcome = .active) then
      s.editResult fun r => { r with peak := some (max t (r.peak.getD t)) }
    else s
  | none => s

/-! ## Tare requests (R67, R68) -/

/-- A tare is requested: the pending flag is set and the 5.0 s timer started, unless one is pending. -/
def State.requestTare (s : State) : State :=
  match s.weigh.tareTimer with
  | some _ => s
  | none => { s with weigh := { s.weigh with tareTimer := some (s.now + Config.sec 5) } }

/-! ## Buzzer (R194) -/

/-- A start of the buzzer sequence: its first pulse begins at once. A pulse in progress sounds on as that first
pulse and a gap ends, and the 1.0 s is counted from this start (R194). -/
def State.startBuzzer (s : State) : State :=
  { s with aux := { s.aux with buzzer := some { phase := 0, deadline := s.now + Config.ms 200 } } }

/-! ## The command interpreter (R181, R182) -/

/-- The outcome of a command: its result code and the data of its reply. -/
structure Reply where
  result : ResultCode
  data : List Byte
deriving DecidableEq, Repr

/-- An effect with a reply. -/
abbrev Executed := State × Reply

/-- A refusal: nothing changes, and the reply carries no data (R181). -/
def refuse (s : State) (code : ResultCode) : Executed := (s, ⟨code, []⟩)

/-- OK_CLAMPED when a value was clamped and OK otherwise. -/
def okOr (clamped : Bool) : ResultCode := if clamped then .okClamped else .ok

/-- The frame that the interpreter takes. The oldest frame is taken from the queue when it is the one named.
With the queue empty, no place reserved and the port's address enabled, the frame stands for its own write,
which joins the queue and is taken at once (DESIGN CHOICE, log entry 6). `none` when the named frame cannot be taken. -/
def State.takeFrame (s : State) (f : Frame) : Option State :=
  match s.bus.queue with
  | head :: rest => if head = f then some { s with bus := { s.bus with queue := rest } } else none
  | [] => if s.bus.writing = none ∧ s.bus.enabled f.port ∧ f.bytes ≠ [] then some s else none

/-- A frame's outcome goes to the reply slot of its port (R181). -/
def State.recordReply (s : State) (p : Port) (code : Option Byte) (r : Reply) : State :=
  { s with bus := { s.bus with
      slots := s.bus.slots.set p { code := code, result := some r.result, data := r.data } } }

/-- The code of WARM RESET, which passes the state check in FAULTED (R45, R188). -/
def warmResetCode : Byte := 0xB0

/-- Stage 4 of R182: FAULTED lets classes 0 and 1 and WARM RESET pass (R45). -/
def passesState (s : State) (code : Byte) : Bool :=
  decide (s.run.state ≠ .faulted) || decide (classOf code = 0) || decide (classOf code = 1) ||
    decide (code = warmResetCode)

/-- The checks of stages 1 to 4 of R182 on a frame, then the command's own rule. -/
def interpret (s : State) (f : Frame) (code : Byte) (rule : State → Executed) : Executed :=
  if f.isBad then refuse s .badFrame
  else if !s.bus.accepts f.port (classOf code) then refuse s .refusedClass
  else if !passesState s code then refuse s .refusedState
  else rule s

/-- A command of a master: its frame is taken, checked and executed, and its outcome goes to the reply slot.
Where the frame cannot be taken nothing happens. -/
def runCommand (s : State) (p : Port) (code : Byte) (params : List Byte) (rule : State → Executed) : State :=
  let f : Frame := { port := p, bytes := frameBytesOf code params, tooLong := decide (38 < params.length) }
  match s.takeFrame f with
  | some s1 =>
    let done := interpret s1 f code rule
    done.1.recordReply p (some code) done.2
  | none => s

/-- A CONFIG-class command's rule: refused with REFUSED_STATE outside CONFIG (R48). -/
def inConfig (rule : State → Executed) (s : State) : Executed :=
  if s.run.state = .config then rule s else refuse s .refusedState

/-- A SAFETY-class command other than KEY A clears the key sequence flag after it has acted (R160). -/
def clearsKey (rule : State → Executed) (s : State) : Executed :=
  let done := rule s
  ({ done.1 with safety := { done.1.safety with keySequence := false } }, done.2)

/-- The data of the run commands' replies: run state, cursor, step phase and hold-cause set (R49). -/
def State.runData (s : State) : List Byte :=
  u8 s.run.state.code ++ u8 s.run.cursor ++ u8 s.run.phase.code ++ u16 s.run.causes.code

/-- The reply of a run command that was executed, with the state as its effect left it (R49). -/
def runReply (s : State) (code : ResultCode) : Executed := (s, ⟨code, s.runData⟩)

end Sys2Proof.Machine
end

