-- ==== Sys2Proof/Machine/AuxLines.lean ====
section
/-! DEFINITION. The auxiliary lines: SET LINE FUNCTION (R191), SET LINE LEVEL (R192), the buzzer (R194) and
the run lamp (R195). -/

namespace Sys2Proof.Machine

/-- The level on a line's pin when its command is executed, under whatever function. -/
def Aux.sensePin (a : Aux) (i : Nat) (pin : Bool) : Aux :=
  { a with lines := a.lines.modify i fun l => { l with pin := pin } }

/-- The reply of the line commands: line number, function, latch and read-back value (R191, R192). -/
def State.lineReply (s : State) (i : Nat) : List Byte :=
  match s.aux.lines[i]? with
  | some l => u8 i ++ u8 l.function.code ++ flag l.latch ++ flag (s.readBack l)
  | none => []

/-- Another line than the one named holds SCALE_TRIG_IN (R191). -/
def Aux.trigElsewhere (a : Aux) (i : Nat) : Bool :=
  (List.range 8).any fun j => decide (j ≠ i) && decide (a.lines[j]?.map AuxLine.function = some .scaleTrigIn)

/-- A line takes a function, and keeps its latch (R191). -/
def Aux.setFunction (a : Aux) (i : Nat) (f : LineFunction) : Aux :=
  { a with lines := a.lines.modify i fun l => { l with function := f } }

/-- SET LINE FUNCTION's own rule, in the order of R191. -/
def setLineFunctionRule (line function : Byte) (pin : Bool) (s : State) : Executed :=
  let i := line.toNat
  match LineFunction.ofCode function with
  | none => refuse s .badValue
  | some f =>
    if f ∉ allowedFunctions i then refuse s .badValue
    else if f = .scaleTrigIn ∧ s.aux.trigElsewhere i then refuse s .inUse
    else
      let s1 : State := { s with aux := (s.aux.sensePin i pin).setFunction i f }
      (s1, ⟨.ok, s1.lineReply i⟩)

/-- SET LINE FUNCTION (R191). -/
def execSetLineFunction (p : Port) (line function : Byte) (pin : Bool) (s : State) : Step :=
  .next (runCommand s p 0xA5 [line, function] (inConfig (setLineFunctionRule line function pin)))

/-- A line's level latch takes a level (R192). -/
def Aux.setLatch (a : Aux) (i : Nat) (level : Bool) : Aux :=
  { a with lines := a.lines.modify i fun l => { l with latch := level } }

/-- SET LINE LEVEL's own rule (R192). -/
def setLineLevelRule (line level : Byte) (pin : Bool) (s : State) : Executed :=
  let i := line.toNat
  if 7 < i ∨ 1 < level.toNat then refuse s .badValue
  else
    let s1 : State := { s with aux := (s.aux.sensePin i pin).setLatch i (decide (level.toNat = 1)) }
    (s1, ⟨.ok, s1.lineReply i⟩)

/-- SET LINE LEVEL (R192). -/
def execSetLineLevel (p : Port) (line level : Byte) (pin : Bool) (s : State) : Step :=
  .next (runCommand s p 0x90 [line, level] (setLineLevelRule line level pin))

/-- BUZZER_PHASE_END: the next pulse or gap of 200 ms begins, and after the third pulse the sequence is IDLE
(R194). -/
def execBuzzerPhaseEnd (s : State) : Step :=
  .next (match s.aux.buzzer with
    | some b =>
      let s1 := s.reach b.deadline
      let next := if b.phase < 4 then some { phase := b.phase + 1, deadline := b.deadline + Config.ms 200 }
        else none
      { s1 with aux := { s1.aux with buzzer := next } }
    | none => s)

/-- RUN_LAMP_BLINK: in HELD the run lamp toggles every 0.5 s (R195). -/
def execRunLampBlink (s : State) : Step :=
  .next (if s.run.state = .held then
      let s1 := s.reach s.aux.lampDue
      { s1 with aux := { s1.aux with
          lamp := !s1.aux.lamp, lampDue := s1.aux.lampDue + Config.ms 500 } }
    else s)

end Sys2Proof.Machine
end

