-- ==== Sys2Proof/Machine/Drive.lean ====
section
/-! DEFINITION. The shared operations of heater and blade: the cut of a grant and the vent fan (R115, R117),
the handover of the heat and stir set points (R106, R120), the commanded level with what follows it (R121 to
R124, R128, R131, R193), the brake and its end (R127), and the loss of heat or motion enable. -/

namespace Sys2Proof.Machine

/-! ## Heater -/

/-- The vent fan follows its condition (R117). -/
def State.updateVent (s : State) : State :=
  let next := match s.thermal.vent with
    | .off => if s.thermal.fanCondition then .on else .off
    | .on => if s.thermal.fanCondition then .on else .runout (s.now + Config.sec 30)
    | .runout d => if s.thermal.fanCondition then .on else .runout d
  { s with thermal := { s.thermal with vent := next } }

/-- The grant is cut to 0 for the rest of the window, and the gate fires no further (R115; DEDUCED, log entry 18). -/
def State.cutGrant (s : State) : State :=
  State.updateVent { s with thermal := { s.thermal with grant := 0, gate := false } }

/-- The run controller hands over the heat set point that its state gives (R106). A set point of none, or one
whose cap is below the grant, cuts the grant (R115). -/
def State.handHeat (s : State) : State :=
  let point := s.heatPoint
  let s1 : State := { s with thermal := { s.thermal with setPoint := point } }
  if point.all fun p => decide (p.cap < s.thermal.grant) then s1.cutGrant else s1

/-! ## Blade -/

/-- The commanded level follows its rule, and a change of it re-evaluates the current kind (R121, R54). -/
def State.updateCommanded (s : State) : State :=
  if s.commandedLevel = s.blade.commanded then s
  else
    let s1 : State := { s with blade := { s.blade with commanded := s.commandedLevel } }
    { s1 with weigh := { s1.weigh with kind := s1.kindNow } }

/-- The lid lock follows its condition and records the moment it engages (R193). -/
def State.updateLock (s : State) : State :=
  if !s.lockCondition then { s with aux := { s.aux with lockEngaged := false } }
  else if s.aux.lockEngaged then s
  else { s with aux := { s.aux with lockEngaged := true, lockedAt := s.now } }

/-- The interval of the down ramp (R123). -/
def downInterval : Nat := Config.ms 250

/-- A running ramp timer of the wanted direction runs on; otherwise it is started (R123). -/
def rampToward (ramp : Option Ramp) (up : Bool) (deadline : Nat) : Ramp :=
  match ramp with
  | some r => if r.up = up then r else { up := up, deadline := deadline }
  | none => { up := up, deadline := deadline }

/-- The ramp timer and the settle timer that the present target asks for (R123, R128): none while the
inverter is not DRIVING or the target is reached; a wait for the lid lock before a rise from 0; otherwise the
ramp toward the target. -/
def State.rampNow (s : State) : Option Ramp × Option Nat :=
  if s.blade.inverter ≠ .driving ∨ s.targetLevel = s.blade.effective then (none, none)
  else if s.blade.effective < s.targetLevel then
    if s.blade.effective = 0 && s.mustSettle then (none, some (s.aux.lockedAt + settleTime))
    else (some (rampToward s.blade.ramp true (s.now + s.thermal.upInterval)), none)
  else (some (rampToward s.blade.ramp false (s.now + downInterval)), none)

/-- The target level is re-evaluated (R122, R123, R128). -/
def State.updateRamp (s : State) : State :=
  { s with blade := { s.blade with ramp := s.rampNow.1, settle := s.rampNow.2 } }

/-- The stall timer: started when the stall condition begins, discarded when it ends (R131). -/
def State.updateStall (s : State) : State :=
  let next := if s.blade.stallCondition then some (s.blade.stallTimer.getD (s.now + Config.sec 2)) else none
  { s with blade := { s.blade with stallTimer := next } }

/-- The commanded level, the lid lock after it, the target after the lock, and the stall condition follow the
state (R121, R193, R128, R131). -/
def State.updateBlade (s : State) : State :=
  s.updateCommanded.updateLock.updateRamp.updateStall

/-- At effective level 0 the effective direction takes the one asked for (R124). -/
def State.takeDirection (s : State) : State :=
  if s.blade.effective = 0 then
    { s with blade := { s.blade with direction := s.blade.wantDirection.getD s.blade.direction } }
  else s

/-- A pattern with an on time. -/
def Pattern.onTime : Pattern → Option Nat
  | .interval on _ => some on
  | .continuous | .knead => none

/-- The run controller hands over a stir set point: its pattern starts afresh, its direction is compared with
the effective one (R120, R124, R125, R126). -/
def State.handStir (s : State) (p : StirPoint) : State :=
  State.updateBlade <| State.takeDirection
    { s with blade := { s.blade with
        stir := p
        intervalOn := p.pattern.onTime.isSome
        patternTimer := p.pattern.onTime.map fun on => s.now + Config.sec on
        halfTimer := none
        wantDirection := p.direction } }

/-- The stir set point of a record: its Stir part, or level 0 (R120). -/
def StepRecord.stirPoint (r : StepRecord) : StirPoint :=
  match r.stir with
  | some t => { level := t.level, direction := some t.direction, pattern := t.pattern }
  | none => .zero

/-- BRAKING ends, and OFF ends while mains is not LOST, once 0.5 s have passed without an accepted pulse: the
inverter becomes DRIVING at effective level 0 (R127, R132). -/
def State.endRest (s : State) : State :=
  if (s.blade.inverter = .braking ∨ (s.blade.inverter = .off ∧ ¬ s.mainsLost)) ∧ s.rested then
    State.updateBlade { s with blade := { s.blade with inverter := .driving } }
  else s

/-- The drive brakes: effective level 0, no ramp and no settle; the inverter stays OFF while the mains state
is LOST (R127). -/
def State.brake (s : State) : State :=
  State.endRest <| State.updateStall
    { s with blade := { s.blade with
        effective := 0, ramp := none, settle := none
        inverter := if s.mainsLost then .off else .braking } }

/-- What the loss of heat enable and of motion enable brings about, from the state before a change of what
they depend on to the state after it (R110, R115, R121, R127). -/
def State.gates (before after : State) : State :=
  let s1 := if before.heatEnabled && !after.heatEnabled then after.cutGrant else after
  let s2 := if before.motionEnabled && !s1.motionEnabled then s1.brake else s1
  s2.updateBlade

/-! ## Derate ceiling -/

/-- The derate ceiling is removed and both counts set to 0 (R141). -/
def State.removeDerate (s : State) : State :=
  State.updateBlade
    { s with budget := { s.budget with ceiling := none, overCount := 0, underCount := 0 } }

end Sys2Proof.Machine
end

