-- ==== Sys2Proof/Machine/RunControl.lean ====
section
/-! DEFINITION. The shared operations of the run controller: the hold-cause set (R33 to R35), arrival and
entry (R25, R26), the latching of conditions and the end of a step (R27 to R31), HALTED, FAULTED and DONE
(R31, R43, R45), manual operation's end (R47), and the stop latch and lease lapse that lead to them (R154,
R163, R164). -/

namespace Sys2Proof.Machine

/-! ## Run state -/

/-- The time of half a blink of the run lamp (R195). -/
def blinkTime : Nat := Config.ms 500

/-- The run state changes, and the run lamp with it: 1 in RUNNING, a blink that begins at 1 on a change into
HELD, and 0 in every other state (R195). -/
def State.setRunState (s : State) (r : RunState) : State :=
  let aux := match r with
    | .running => { s.aux with lamp := true }
    | .held => if s.run.state = .held then s.aux else { s.aux with lamp := true, lampDue := s.now + blinkTime }
    | .idle | .ready | .done | .manual | .config | .halted | .faulted => { s.aux with lamp := false }
  { s with run := { s.run with state := r }, aux := aux }

/-- Heater request and commanded level go to what the run state gives: no stir set point, and the heat set
point of R106. -/
def State.handIdle (s : State) : State := (s.handStir .zero).handHeat

/-- The log is closed (R80). -/
def State.closeLog (s : State) : State := { s with log := { s.log with isOpen := false } }

/-- The manual set points are cleared (R46). -/
def State.clearManual (s : State) : State :=
  { s with run := { s.run with manualLevel := 0, manualHeat := none } }

/-- The hold-cause set is replaced. -/
def State.setCauses (s : State) (c : CauseSet) : State := { s with run := { s.run with causes := c } }

/-- The step phase is replaced (R22). -/
def State.setPhase (s : State) (p : Phase) : State := { s with run := { s.run with phase := p } }

/-! ## The hold-cause set (R33, R34) -/

/-- The members of both sets. -/
def CauseSet.inter (a b : CauseSet) : CauseSet :=
  { pause := a.pause && b.pause, holdPoint := a.holdPoint && b.holdPoint, overdue := a.overdue && b.overdue,
    stall := a.stall && b.stall, lid := a.lid && b.lid, permit := a.permit && b.permit,
    leaseNotLive := a.leaseNotLive && b.leaseNotLive, sensor := a.sensor && b.sensor,
    mains := a.mains && b.mains, ack := a.ack && b.ack }

/-- The members of the first set that the second lacks. -/
def CauseSet.diff (a b : CauseSet) : CauseSet :=
  { pause := a.pause && !b.pause, holdPoint := a.holdPoint && !b.holdPoint,
    overdue := a.overdue && !b.overdue, stall := a.stall && !b.stall, lid := a.lid && !b.lid,
    permit := a.permit && !b.permit, leaseNotLive := a.leaseNotLive && !b.leaseNotLive,
    sensor := a.sensor && !b.sensor, mains := a.mains && !b.mains, ack := a.ack && !b.ack }

/-- The change of a run in progress to HELD: level 0 for the blade and the keep-warm set point (R35). -/
def State.hold (s : State) : State := (s.setRunState .held).handIdle

/-- One addition to the hold-cause set of a run in progress: the run is HELD, and one HELD notice is sent when
the set did not already hold every cause added (R33). -/
def State.addCauses (s : State) (c : CauseSet) : State :=
  let all := s.run.causes.union c
  if all = s.run.causes ∨ ¬ s.run.state.inRun then s
  else
    let s1 := s.setCauses all
    let s2 := if s1.run.state = .running then s1.hold else s1
    s2.send .held (some s2.run.cursor) (some (.causes all))

/-- The interlock causes of a run are brought to what holds and concerns the current step: causes whose
condition has ended leave, and those that begin are added with ACK (R34). -/
def State.examineRun (s : State) : State :=
  if s.run.state.inRun then
    let here := s.stepInterlocks
    let kept := s.run.causes.others.union (s.run.causes.interlocks.inter here)
    let begun := here.diff s.run.causes
    let s1 := s.setCauses kept
    if begun.isEmpty then s1 else s1.addCauses begun.withAck
  else s

/-- Manual operation ends: READY or IDLE, with heater request and commanded level 0 (R47). -/
def State.endManual (s : State) : State := (s.clearManual.setRunState s.restState).handIdle

/-- An interlock condition that concerns the manual set points ends manual operation with a HELD notice that
names it (R47). -/
def State.examineManual (s : State) : State :=
  let here := s.manualInterlocks s.run.manualLevel s.run.manualHeat.isSome
  if decide (s.run.state = .manual) && !here.isEmpty then
    s.endManual.send .held none (some (.causes here.withAck))
  else s

/-- The interlock conditions are examined for a run or for manual operation (R34, R47). -/
def State.examine (s : State) : State := s.examineRun.examineManual

/-! ## Arrival and entry (R25, R26) -/

/-- The result at entry: the cleared result with outcome ACTIVE (R11). -/
def StepResult.entered : StepResult := { StepResult.cleared with outcome := .active }

/-- Stages 1 to 3 of an entry: phase, result, the step's counts, the auto-tare (R68), and the near-armed flag
of a Weigh part (R74). -/
def State.beginStep (s : State) (r : StepRecord) : State :=
  let s1 := s.editResult fun _ => .entered
  let s2 : State := { s1 with
    run := { s1.run with
      phase := .active, active := 0, countRose := false, met := [], reached := none, overdueTaken := false }
    weigh := { s1.weigh with nearArmed := s1.weigh.nearArmed || r.weigh.isSome } }
  if r.autoTare then s2.requestTare else s2

/-- Stage 6 of an entry: STEP_BEGIN, then PROMPT with its buzzer sequence; the step mark toggles (R194,
R195). -/
def State.announceStep (s : State) (r : StepRecord) : State :=
  let s1 := s.send .stepBegin (some s.run.cursor) none
  let s2 := match r.prompt with
    | some code => (s1.send .prompt (some s1.run.cursor) (some (.promptCode code))).startBuzzer
    | none => s1
  { s2 with aux := { s2.aux with stepMark := !s2.aux.stepMark } }

/-- The entry of the step at the cursor, in the order of R26. -/
def State.enterStep (s : State) : State :=
  match s.record with
  | some r => ((((s.beginStep r).removeDerate).handHeat.handStir r.stirPoint).announceStep r).examineRun
  | none => s

/-- A hold-point slot holds the cursor's index (R25). -/
def State.atHoldPoint (s : State) : Bool :=
  decide (s.program.hold0 = some s.run.cursor) || decide (s.program.hold1 = some s.run.cursor)

/-- The arrival at the cursor: held at a hold point, or the entry at once (R25). -/
def State.arrive (s : State) : State :=
  if s.atHoldPoint then s.addCauses { holdPoint := true } else s.enterStep

/-! ## The end of a step (R30, R31, R38, R39, R41) -/

/-- The conditions of the condition-bearing parts of a record (R7). -/
def StepRecord.conditions (r : StepRecord) : List Condition :=
  (if r.heat.isSome then [.tempReached] else []) ++ (if r.weigh.isSome then [.weightMet] else []) ++
    (if r.time.isSome then [.timeDone] else []) ++ (if r.prompt.isSome then [.confirmed] else [])

/-- The end reason of a condition (R30). -/
def Condition.reason : Condition → EndReason
  | .tempReached => .temp
  | .weightMet => .weight
  | .timeDone => .time
  | .confirmed => .confirm

/-- The end decision on a met-condition set: the end reason, when the step ends (R30). -/
def StepRecord.ends (r : StepRecord) (met : List Condition) : Option EndReason :=
  match r.endMode with
  | .any => met.head?.map Condition.reason
  | .all => if r.conditions.all fun c => decide (c ∈ met) then met.getLast?.map Condition.reason else none

/-- The result of a step that leaves ACTIVE takes its outcome and end reason, and the net mass at exit when
the record has a Weigh part (R11, R75). -/
def State.closeResult (s : State) (outcome : StepOutcome) (reason : Option EndReason) : State :=
  let weighs := s.record.any fun r => r.weigh.isSome
  s.editResult fun r =>
    { r with
      outcome := outcome, reason := reason
      netAtExit := if weighs then some s.weigh.net else r.netAtExit }

/-- The settled net, when the settled flag is set (R64). -/
def Weigh.settledNet (w : Weigh) : Option Int := w.settled.map fun g => limitNet (g - w.tare)

/-- The overshoot check at a completed exit (R75). -/
def State.checkOvershoot (s : State) : State :=
  match s.record.bind StepRecord.weigh, s.weigh.settledNet with
  | some w, some net =>
    if (w.target : Int) + w.tolerance < net then
      (s.editResult fun r => { r with overshoot := true }).send .overshoot (some s.run.cursor) (some (.mass net))
    else s
  | _, _ => s

/-- DONE: heater request and commanded level 0, log closed, hold-cause set emptied, RUN_DONE and its buzzer
sequence (stage 4 of R31, R80, R194). -/
def State.finishRun (s : State) : State :=
  ((((s.setCauses {}).setRunState .done).closeLog.handIdle).send .runDone none none).startBuzzer

/-- The cursor rises by 1 and the phase becomes BEFORE_ENTRY; the step's set points and interlock causes go
with it (stage 3 of R31, R34, R120). The step now current has met no condition and has no active time (DEDUCED,
log entry 13). -/
def State.advance (s : State) : State :=
  let next := s.run.cursor + 1
  let s1 : State := { s with run := { s.run with
    cursor := next, phase := .beforeEntry, met := [], reached := none, countRose := false
    active := if s.program.length ≤ next then s.run.active else 0 } }
  s1.handIdle.examineRun

/-- The cursor has reached the program length. -/
def State.atEnd (s : State) : Bool := decide (s.program.length ≤ s.run.cursor)

/-- DONE at the program length, and otherwise the arrival at the cursor (stages 4 and 5 of R31). -/
def State.proceed (s : State) : State := if s.atEnd then s.finishRun else s.arrive

/-- The exit of the current step with an end reason: the step's set points end before the next arrival hands
over its own (R31; DEDUCED, log entries 19 and 25). -/
def State.exitStep (s : State) (reason : EndReason) : State :=
  let s1 := (s.closeResult .completed (some reason)).checkOvershoot
  (s1.send .stepEnd (some s1.run.cursor) none).advance.proceed

/-- The end decision, made in RUNNING with the phase ACTIVE (R30). -/
def State.decideEnd (s : State) : State :=
  if s.run.state = .running ∧ s.run.phase = .active then
    match s.record.bind fun r => r.ends s.run.met with
    | some reason => s.exitStep reason
    | none => s
  else s

/-- A condition latches, if its part is present and the set does not hold it; TEMP_REACHED also takes the
reached mark. In RUNNING the end decision follows at once (R27, R29, R30). -/
def State.latch (s : State) (c : Condition) : State :=
  if (s.activeRecord.any fun r => decide (c ∈ r.conditions)) && decide (c ∉ s.run.met) then
    State.decideEnd
      { s with run := { s.run with
          met := s.run.met ++ [c]
          reached := if c = .tempReached then some s.run.active else s.run.reached } }
  else s

/-- The end of the current step by SKIP: outcome SKIPPED, and STEP_END for an ACTIVE step (R38, R39). -/
def State.skipResult (s : State) : State :=
  if s.run.phase = .active then
    (s.closeResult .skipped none).send .stepEnd (some s.run.cursor) none
  else s.editResult fun r => { r with outcome := .skipped }

/-- In HELD, after the cursor has risen below the length: HOLD_POINT, OVERDUE and STALL leave the set, and
HOLD_POINT is added again (R39). -/
def State.holdNext (s : State) : State :=
  (s.setCauses { s.run.causes with holdPoint := false, overdue := false, stall := false }).addCauses
    { holdPoint := true }

/-! ## HALTED and FAULTED (R43, R45) -/

/-- What the entries into HALTED and FAULTED share: log closed, hold-cause set emptied, manual set points
cleared, phase BEFORE_ENTRY, heater request and commanded level 0, motor braked. The result keeps its
outcome. -/
def State.stopAll (s : State) (r : RunState) : State :=
  (((((s.setCauses {}).setPhase .beforeEntry).clearManual).setRunState r).closeLog.handIdle).brake

/-- Entry into HALTED (R43). -/
def State.enterHalted (s : State) : State := (s.stopAll .halted).send .halted s.runIndex none

/-- Entry into FAULTED (R45). -/
def State.enterFaulted (s : State) : State := (s.stopAll .faulted).send .fault s.runIndex none

/-- The run states that the stop latch and an unlocked lapse turn into HALTED (R43). -/
def RunState.halts : RunState → Bool
  | .running | .held | .manual => true
  | _ => false

/-- The stop latch becomes set, with its effects when it was CLEAR (R154). -/
def State.setStopLatch (s : State) : State :=
  if s.safety.stopLatch then s
  else
    let s1 := s.gates { s with safety := { s.safety with stopLatch := true } }
    if s1.run.state.halts then s1.enterHalted else s1

/-- The lease lapses: LAPSED with count 0 and the key sequence flag cleared; heat and motion enable end; then
HALTED or its notice for an unlocked lease, FAULTED for a locked one (R163, R164). -/
def State.lapse (s : State) : State :=
  let s1 := s.gates
    { s with safety := { s.safety with lease := .lapsed, count := 0, keySequence := false } }
  if s1.safety.locked then s1.enterFaulted
  else if s1.run.state.halts then s1.enterHalted
  else s1.send .halted none none

end Sys2Proof.Machine
end

