-- ==== Sys2Proof/Machine/BladeDrive.lean ====
section
/-! DEFINITION. The events of the blade drive: ramp, patterns, settle, rest, index pulse, actual speed, stall
and the motor current timer (R123 to R133). -/

namespace Sys2Proof.Machine

/-- The half timer of KNEAD starts when the effective level rises from 0 to 1 in the half's direction (R126). -/
def Blade.halfAfterRise (b : Blade) (now : Nat) : Option Nat :=
  if b.stir.pattern = .knead ∧ b.wantDirection = some b.direction then
    some (b.halfTimer.getD (now + Config.sec 2))
  else b.halfTimer

/-- The effective level moves one level: up, with the moment of a rise from 0 (R130), the KNEAD half timer
(R126) and the window peak level (R136), or down. -/
def State.moveLevel (s : State) (up : Bool) : State :=
  if up then
    { s with
      blade := { s.blade with
        effective := s.blade.effective + 1
        ramp := none
        roseAt := if s.blade.effective = 0 then some s.now else s.blade.roseAt
        halfTimer := if s.blade.effective = 0 then s.blade.halfAfterRise s.now else s.blade.halfTimer }
      budget := { s.budget with peak := max s.budget.peak (s.blade.effective + 1) } }
  else { s with blade := { s.blade with effective := s.blade.effective - 1, ramp := none } }

/-- RAMP_STEP: the ramp timer expires; at level 0 a change of direction is taken, and the ramp goes on while
the target is not reached (R123, R124). -/
def execRampStep (s : State) : Step :=
  .next (match s.blade.ramp with
    | some r => ((s.reach r.deadline).moveLevel r.up).takeDirection.updateBlade
    | none => s)

/-- INTERVAL_PHASE_END: the pattern alternates between ON and OFF (R125). -/
def execIntervalPhaseEnd (s : State) : Step :=
  .next (match s.blade.patternTimer, s.blade.stir.pattern with
    | some moment, .interval on off =>
      let s1 := s.reach moment
      let next := moment + Config.sec (if s.blade.intervalOn then off else on)
      State.updateBlade { s1 with blade := { s1.blade with
        intervalOn := !s1.blade.intervalOn, patternTimer := some next } }
    | _, _ => s)

/-- The other direction. -/
def Direction.other : Direction → Direction
  | .forward => .reverse
  | .reverse => .forward

/-- KNEAD_HALF_END: the pattern's direction becomes the other, and the new half's timer waits (R126, R124). -/
def execKneadHalfEnd (s : State) : Step :=
  .next (match s.blade.halfTimer with
    | some moment =>
      let s1 := s.reach moment
      State.updateBlade <| State.takeDirection
        { s1 with blade := { s1.blade with
          halfTimer := none, wantDirection := s1.blade.wantDirection.map Direction.other } }
    | none => s)

/-- The inverter waits for the blade's rest: BRAKING, or OFF while mains is not LOST (R127). -/
def State.waitsForRest (s : State) : Bool :=
  decide (s.blade.inverter = .braking) || (decide (s.blade.inverter = .off) && !s.mainsLost)

/-- INVERTER_REST_WAIT_END: 0.5 s have passed without an accepted pulse (R127, R132). -/
def execInverterRestWaitEnd (s : State) : Step :=
  .next (if s.waitsForRest then
      match s.blade.lastPulse with
      | some t => (s.reach (t + restWait)).endRest
      | none => s.endRest
    else s)

/-- LID_LOCK_SETTLE_END: the settle timer expires, and the first up interval starts (R128). -/
def execLidLockSettleEnd (s : State) : Step :=
  .next (match s.blade.settle with
    | some moment => (s.reach moment).updateBlade
    | none => s)

/-! ## Index pulse and actual speed -/

/-- The time without an accepted pulse after which the actual speed is 0: 3.0 s (R130). -/
def speedWindow : Nat := Config.sec 3

/-- The speed of a period, in rpm (R130). -/
def speedOf (period : Nat) : Nat := (roundDiv 180000000 period).toNat

/-- The least period of an accepted pulse: 5,000 µs (R129). -/
def leastPeriod : Nat := Config.us 5000

/-- A candidate is accepted (R129; DEDUCED, log entry 16). -/
def State.acceptsPulse (s : State) : Bool :=
  s.blade.lastPulse.all fun t => decide (t + leastPeriod ≤ s.now)

/-- The period that an accepted pulse gives, if it gives one: from the accepted pulse before it within 3.0 s,
or else from the moment the effective level last rose from 0 (R130). -/
def State.pulsePeriod (s : State) : Option Nat :=
  let fromRise := match s.blade.roseAt with
    | some t => if s.now ≤ t + speedWindow ∧ t + leastPeriod ≤ s.now then some (s.now - t) else none
    | none => none
  match s.blade.lastPulse with
  | some t => if s.now ≤ t + speedWindow then some (s.now - t) else fromRise
  | none => fromRise

/-- An accepted pulse at the actual-speed computation (R130). -/
def State.countPulse (s : State) : State :=
  { s with blade := { s.blade with
      lastPulse := some s.now
      lastPeriod := match s.pulsePeriod with
        | some period => some period
        | none => s.blade.lastPeriod
      actual := match s.pulsePeriod with
        | some period => speedOf period
        | none => 0
      checkDue := s.now + Config.ms 10 } }

/-- INDEX_PULSE: an accepted pulse feeds the actual speed, the sample kind and, under AUTO with kind ANGLE, a
trigger (R54, R55, R129, R130). -/
def execIndexPulse (dt : Nat) (s : State) : Step :=
  let s1 := s.after dt
  .next (if s1.acceptsPulse then
      let s2 := s1.countPulse.updateBlade
      let s3 : State := { s2 with weigh := { s2.weigh with kind := s2.kindNow } }
      if s3.weigh.policy.trigger = .auto ∧ s3.weigh.kind = .angle then s3.trigger else s3
    else s1)

/-- SPEED_CHECK: with more than the last period elapsed since the last accepted pulse, the actual speed falls
to the speed of the elapsed time (R130; DESIGN CHOICE, log entry 15). -/
def execSpeedCheck (s : State) : Step :=
  let s1 := s.reach s.blade.checkDue
  let s2 : State := { s1 with blade := { s1.blade with checkDue := s1.blade.checkDue + Config.ms 10 } }
  .next (match s2.blade.lastPulse, s2.blade.lastPeriod with
    | some t, some period =>
      if period < s2.now - t then
        State.updateBlade { s2 with blade := { s2.blade with actual := min s2.blade.actual (speedOf (s2.now - t)) } }
      else s2
    | _, _ => s2)

/-- SPEED_TIMEOUT: 3.0 s without an accepted pulse (R130). -/
def execSpeedTimeout (s : State) : Step :=
  .next (match s.blade.lastPulse with
    | some t =>
      let s1 := s.reach (t + speedWindow)
      State.updateBlade { s1 with blade := { s1.blade with actual := 0 } }
    | none => s)

/-! ## Stall -/

/-- The run controller's answer to a stall: STALL in RUNNING; in MANUAL the level 0, or the end of manual
operation where no heat is set (R132, R33, R47). -/
def State.answerStall (s : State) : State :=
  match s.run.state with
  | .running => s.addCauses { stall := true }
  | .manual =>
    if s.run.manualHeat.isSome then
      State.handStir { s with run := { s.run with manualLevel := 0 } }
        { level := 0, direction := some .forward, pattern := .continuous }
    else s.endManual
  | .idle | .ready | .held | .done | .config | .halted | .faulted => s

/-- STALL: the stall timer expires (R132; DEDUCED, log entry 26). -/
def execStall (s : State) : Step :=
  .next (match s.blade.stallTimer with
    | some moment =>
      let s1 := s.reach moment
      let s2 : State := { s1 with blade := { s1.blade with
        effective := 0, ramp := none, settle := none, inverter := .off, stallTimer := none } }
      ((s2.send .stall s2.runIndex none).answerStall).endRest
    | none => s)

/-! ## Motor current -/

/-- MOTOR_I_TIMER: a request on the MOTOR_I channel (R133, R146). -/
def execMotorITimer (s : State) : Step :=
  let s1 := s.reach s.blade.motorDue
  let s2 : State := { s1 with blade := { s1.blade with motorDue := s1.blade.motorDue + Config.ms 50 } }
  .next (s2.request fun c => { c with motorI := true })

end Sys2Proof.Machine
end

