-- ==== Sys2Proof/Machine/Editing.lean ====
section
/-! DEFINITION. The EDIT and HOLD commands: PUT STEP, DELETE STEP, CLEAR PROGRAM and the hold-point slots
(R12 to R19). -/

namespace Sys2Proof.Machine

/-- The run states in which every edit is refused with REFUSED_STATE (R12, R14, R16). -/
def RunState.refusesEdits : RunState → Bool
  | .config | .halted | .faulted => true
  | .idle | .ready | .running | .held | .done | .manual => false

/-- An index that the run has reached (R13). -/
def State.lockedIndex (s : State) (i : Nat) : Bool := s.run.state.inRun && decide (i ≤ s.run.cursor)

/-- The table with a record stored at an index: replaced below the length, appended at it; the result at the
index is cleared (R12). -/
def Program.put (p : Program) (i : Nat) (r : StepRecord) : Program :=
  { p with
    steps := if i < p.length then p.steps.set i r else p.steps ++ [r]
    results := p.results.set i .cleared }

/-- PUT STEP's own rule, checked in the order of R12. -/
def putStepRule (index : Byte) (record : List Byte) (s : State) : Executed :=
  let i := index.toNat
  if s.run.state.refusesEdits then refuse s .refusedState
  else if s.lockedIndex i then refuse s .lockedStep
  else if s.program.length < i then refuse s .badIndex
  else if i = s.program.length ∧ Config.tableSize ≤ s.program.length then refuse s .full
  else match readRecord record with
    | none => refuse s .badValue
    | some r =>
      let s1 : State := { s with program := s.program.put i r }
      let s2 := if s.run.state = .idle then s1.setRunState s1.restState else s1
      (s2, ⟨okOr r.clamped, u8 i ++ u8 s2.program.length⟩)

/-- PUT STEP (R12). -/
def execPutStep (p : Port) (index : Byte) (record : List Byte) (s : State) : Step :=
  .next (runCommand s p 0x50 (index :: record) (putStepRule index record))

/-- A hold-point slot after the record at index `d` is removed (R19). -/
def holdAfterDelete (d : Nat) : Option Nat → Option Nat
  | some i => if i = d then none else if d < i then some (i - 1) else some i
  | none => none

/-- The table without the record at index `d`: later records move down with their results, the result at the
old last index is cleared, and the hold-point slots follow (R14, R19). -/
def Program.delete (p : Program) (d : Nat) : Program :=
  { steps := p.steps.eraseIdx d
    results := (p.results.take p.length).eraseIdx d ++ [.cleared] ++ p.results.drop p.length
    hold0 := holdAfterDelete d p.hold0
    hold1 := holdAfterDelete d p.hold1 }

/-- Run state after the table has become empty in READY or DONE (R14, R15). -/
def RunState.whenEmptied : RunState → RunState
  | .ready | .done => .idle
  | r => r

/-- DELETE STEP's own rule (R13, R14). -/
def deleteStepRule (index : Byte) (s : State) : Executed :=
  let i := index.toNat
  if s.run.state.refusesEdits then refuse s .refusedState
  else if s.lockedIndex i then refuse s .lockedStep
  else if s.program.length ≤ i then refuse s .badIndex
  else
    let program := s.program.delete i
    let cursor := if s.run.state.inRun then s.run.cursor else min s.run.cursor program.length
    let s1 : State := { s with program := program, run := { s.run with cursor := cursor } }
    let s2 := if program.length = 0 then s1.setRunState s1.run.state.whenEmptied else s1
    (s2, ⟨.ok, u8 program.length⟩)

/-- DELETE STEP (R14). -/
def execDeleteStep (p : Port) (index : Byte) (s : State) : Step :=
  .next (runCommand s p 0x51 [index] (deleteStepRule index))

/-- CLEAR PROGRAM's own rule (R15). -/
def clearProgramRule (s : State) : Executed :=
  if s.run.state.refusesEdits || s.run.state.inRun then refuse s .refusedState
  else
    let s1 : State := { s with program := .reset, run := { s.run with cursor := 0 } }
    (s1.setRunState s1.run.state.whenEmptied, ⟨.ok, []⟩)

/-- CLEAR PROGRAM (R15). -/
def execClearProgram (p : Port) (s : State) : Step := .next (runCommand s p 0x52 [] clearProgramRule)

/-- The content of a hold-point slot (R16). -/
def Program.holdSlot (p : Program) (slot : Nat) : Option Nat := if slot = 0 then p.hold0 else p.hold1

/-- A hold-point slot replaced (R16). -/
def Program.setHold (p : Program) (slot : Nat) (v : Option Nat) : Program :=
  if slot = 0 then { p with hold0 := v } else { p with hold1 := v }

/-- SET HOLD POINT's own rule (R16, R17). -/
def setHoldPointRule (slot index : Byte) (s : State) : Executed :=
  if s.run.state.refusesEdits then refuse s .refusedState
  else if 1 < slot.toNat then refuse s .badValue
  else if s.program.length ≤ index.toNat then refuse s .badIndex
  else if s.program.holdSlot (1 - slot.toNat) = some index.toNat then refuse s .inUse
  else
    let program := s.program.setHold slot.toNat (some index.toNat)
    ({ s with program := program }, ⟨.ok, holdBytes program⟩)

/-- SET HOLD POINT (R17). -/
def execSetHoldPoint (p : Port) (slot index : Byte) (s : State) : Step :=
  .next (runCommand s p 0x60 [slot, index] (setHoldPointRule slot index))

/-- CLEAR HOLD POINT's own rule (R16, R18). -/
def clearHoldPointRule (slot : Byte) (s : State) : Executed :=
  if s.run.state.refusesEdits then refuse s .refusedState
  else if 1 < slot.toNat then refuse s .badValue
  else
    let program := s.program.setHold slot.toNat none
    ({ s with program := program }, ⟨.ok, holdBytes program⟩)

/-- CLEAR HOLD POINT (R18). -/
def execClearHoldPoint (p : Port) (slot : Byte) (s : State) : Step :=
  .next (runCommand s p 0x61 [slot] (clearHoldPointRule slot))

end Sys2Proof.Machine
end

