-- ==== Sys2Proof/Machine/Heating.lean ====
section
/-! DEFINITION. The thermal unit and the mains budget: thermistor readings (R94 to R101), mains supervision
(R102 to R105), the window with its grant and firing (R108 to R114), the budget's window end (R134, R137,
R139, R140), and their settings (R97, R116, R138, R200). -/

namespace Sys2Proof.Machine

/-! ## Thermistors -/

/-- THERMISTOR_TIMER: a request for each of BASE, ELEMENT and CELL (R94, R146). -/
def execThermistorTimer (s : State) : Step :=
  let s1 := s.reach s.thermal.timerDue
  let s2 : State := { s1 with thermal := { s1.thermal with timerDue := s1.thermal.timerDue + Config.ms 100 } }
  .next (s2.request fun c => { c with base := true, element := true, cell := true })

/-- The temperature of a code in a table: by the last segment whose first point's code is at most the code,
the last segment serving the code of the last point too (R96). `none` outside the table. -/
def interpolate (table : List (Nat × Int)) (code : Nat) : Option Int :=
  match table with
  | (c0, t0) :: (c1, t1) :: rest =>
    if code < c0 then none
    else if code < c1 ∨ (rest = [] ∧ code = c1) then
      some (t0 + roundDiv ((t1 - t0) * ((code : Int) - c0)) (c1 - c0))
    else interpolate ((c1, t1) :: rest) code
  | _ => none

/-- The reading of a conversion (R94, R96). -/
def readingOf (table : List (Nat × Int)) (code : Nat) : Reading :=
  match interpolate table code with
  | some t => .valid t
  | none => .invalid

/-- The base history after a BASE conversion (R98). -/
def historyAfter (history : List Int) : Reading → List Int
  | .valid t => pushLast 4 history t
  | .none | .invalid => []

/-- A status becomes INVALID, from NONE or from VALID (R99, R100). -/
def becomesInvalid (was now : Reading) : Bool := decide (now = .invalid) && decide (was ≠ .invalid)

/-- A BASE conversion completes: the reading, the base history and Tb with all that reads it, and a base
sensor fault when one begins (R98, R99). -/
def State.baseReading (s : State) (r : Reading) : State :=
  let s1 := s.gates { s with thermal := { s.thermal with
    base := r, baseHistory := historyAfter s.thermal.baseHistory r } }
  let s2 := s1.updateVent.notePeak
  let s3 := if becomesInvalid s.thermal.base r then
      s2.cutGrant.send .sensor s2.runIndex (some (.source .base))
    else s2
  s3.examine

/-- The element protection flag after a reading (R101). -/
def hotAfter (hot : Bool) : Reading → Bool
  | .valid t => if hot then decide (2700 ≤ t) else decide (3000 ≤ t)
  | .none | .invalid => hot

/-- The temperature of a VALID reading. -/
def Reading.temp : Reading → Int
  | .valid t => t
  | .none | .invalid => 0

/-- An ELEMENT conversion completes: an invalid reading or element protection cuts the grant and sends its
notice (R100, R101). -/
def State.elementReading (s : State) (r : Reading) : State :=
  let hot := hotAfter s.thermal.hot r
  let s1 := s.gates { s with thermal := { s.thermal with element := r, hot := hot } }
  if becomesInvalid s.thermal.element r then
    s1.cutGrant.send .sensor s1.runIndex (some (.source .element))
  else if hot && !s.thermal.hot then
    s1.cutGrant.send .elementHot s1.runIndex (some (.temperature r.temp))
  else s1

/-! ## Mains -/

/-- The mains state of a measured voltage (R104). -/
def mainsOf (volts : Nat) : MainsState :=
  if volts < 900 then .lost else if volts < 1800 then .undervolt else .present

/-- The inverter is OFF at once, with effective level 0 (R127). -/
def State.inverterOff (s : State) : State :=
  State.updateStall
    { s with blade := { s.blade with effective := 0, ramp := none, settle := none, inverter := .off } }

/-- The notice of an entry into a mains state (R104). -/
def State.sendMains (s : State) : MainsState → State
  | .undervolt => s.send .sensor s.runIndex (some (.source .mainsLow))
  | .lost => s.send .sensor s.runIndex (some (.source .mainsLost))
  | .present => s

/-- The mains state changes: heat and motion enable, the inverter, the notice, and the interlock condition
(R104, R105, R127; DEDUCED, log entry 19). -/
def State.setMains (s : State) (m : MainsState) : State :=
  if m = s.thermal.mains then s
  else
    let s1 := s.gates { s with thermal := { s.thermal with mains := m } }
    let s2 := if m = .lost then s1.inverterOff else s1.endRest
    (s2.sendMains m).examine

/-- A MAINS conversion completes: V and the mains state, unless its window was abandoned (R104). -/
def State.mainsReading (s : State) (live : Bool) (code : Nat) : State :=
  if live then
    let v := (roundDiv (code * s.thermal.kmains : Nat) 4096).toNat
    State.setMains { s with thermal := { s.thermal with volts := some v } } (mainsOf v)
  else s

/-- The motor current of a code, in mA (R133). -/
def motorCurrent (code : Nat) : Nat := (roundDiv (code * 2000 : Nat) 1024).toNat

/-- The power sample of a motor current at a measured voltage; 0 while none has been measured (R133). -/
def powerSample (volts : Option Nat) (current : Nat) : Nat :=
  (roundDiv (volts.getD 0 * current * 1414 : Nat) 10000000).toNat

/-- A MOTOR_I conversion completes: the power sample joins the window accumulation (R133, R134). -/
def State.motorReading (s : State) (code : Nat) : State :=
  let p := powerSample s.thermal.volts (motorCurrent code)
  { s with blade := { s.blade with
      power := p, powerSum := s.blade.powerSum + p, powerCount := s.blade.powerCount + 1 } }

/-- A completed conversion's code goes to the block that owns its channel (R148). -/
def State.deliver (s : State) (channel : Channel) (live : Bool) (code : Nat) : State :=
  match channel with
  | .mains => s.mainsReading live code
  | .base => s.baseReading (readingOf s.thermal.table code)
  | .element => s.elementReading (readingOf s.thermal.table code)
  | .cell => { s with thermal := { s.thermal with cell := readingOf s.thermal.table code } }
  | .motorI => s.motorReading code

/-- The conversion in progress, when it is of this channel: whether it is live, and the moment it ends. -/
def Converter.conversionEnd (c : Converter) (channel : Channel) : Option (Bool × Nat) :=
  match c.work with
  | .single ch live ends => if ch = channel then some (live, ends) else none
  | .free | .burst .. => none

/-- CONVERSION_COMPLETE: the conversion ends, its code is handed over, and the arbiter chooses again (R145,
R148). -/
def execConversionComplete (channel : Channel) (code : BitVec 12) (s : State) : Step :=
  .next (match s.converter.conversionEnd channel with
    | some (live, ends) =>
      let s1 := s.reach ends
      let s2 : State := { s1 with converter := { s1.converter with work := .free } }
      (s2.deliver channel live code.toNat).arbitrate
    | none => s)

/-! ## The window -/

/-- The average of the window accumulation, 0 when it is empty (R134). -/
def Blade.averagePower (b : Blade) : Nat :=
  if b.powerCount = 0 then 0 else (roundDiv (b.powerSum : Nat) b.powerCount).toNat

/-- The over-budget test and the derate it makes (R139). -/
def State.derate (s : State) : State :=
  if s.budget.watts - Config.reserve < s.blade.pmot then
    if 3 ≤ s.budget.overCount + 1 then
      if 2 ≤ s.budget.peak then
        let s1 : State := { s with budget := { s.budget with
          overCount := 0, underCount := 0, ceiling := some (s.budget.peak - 1) } }
        State.updateBlade (s1.send .budgetDerate s1.runIndex none)
      else { s with budget := { s.budget with overCount := 0 } }
    else { s with budget := { s.budget with overCount := s.budget.overCount + 1 } }
  else { s with budget := { s.budget with overCount := 0 } }

/-- The under count after a window (R140). -/
def State.underAfter (s : State) : Nat :=
  if 10 * s.blade.pmot < 8 * (s.budget.watts - Config.reserve) then min 5 (s.budget.underCount + 1) else 0

/-- The recovery test while a ceiling is in force, and the rise or removal it makes (R140, R141). -/
def State.recover (s : State) : State :=
  match s.budget.ceiling with
  | some c =>
    if s.underAfter = 5 then
      if s.blade.stir.level ≤ c + 1 then s.removeDerate
      else State.updateBlade { s with budget := { s.budget with underCount := 5, ceiling := some (c + 1) } }
    else { s with budget := { s.budget with underCount := s.underAfter } }
  | none => s

/-- The window ends: Pmot is formed, the remainder computed, and the derate decisions made (R109, R134, R137,
R139, R140). -/
def State.endWindow (s : State) : State :=
  let pmot := s.blade.averagePower
  let s1 : State := { s with
    blade := { s.blade with pmot := pmot, powerSum := 0, powerCount := 0 }
    budget := { s.budget with remainder := s.budget.watts - Config.reserve - pmot } }
  s1.derate.recover

/-- The TEMP_REACHED test of a window start (R108). -/
def State.testTemp (s : State) : State :=
  match s.activeRecord.bind StepRecord.heat, s.thermal.tb with
  | some h, some t => if (h.target : Int) - 10 ≤ t then s.latch .tempReached else s
  | _, _ => s

/-- Stages 3 to 6 of a window start: the grant, the duty and the first cycle's firing (R111 to R114). -/
def State.grantWindow (s : State) : State :=
  let g := s.computedGrant
  let s1 : State := { s with thermal := { s.thermal with
    grant := g, duty := dutyOf g s.thermal.fullPower } }
  State.updateVent { s1 with thermal := { s1.thermal with gate := s1.fires 0 } }

/-- A window start, in the order of R114; the window peak level is the effective level (R136), and the
accumulation holds the samples from this start on (R134). -/
def State.startWindow (s : State) : State :=
  let s1 : State := { s with
    thermal := { s.thermal with cycle := some 0, gate := false }
    blade := { s.blade with powerSum := 0, powerCount := 0 }
    budget := { s.budget with peak := s.blade.effective } }
  s1.requestMains.testTemp.grantWindow

/-- A counted crossing begins the next mains cycle: of the window in progress, or the first of a new window
(R109, R113). -/
def State.beginCycle (s : State) : State :=
  match s.thermal.cycle with
  | some k =>
    if k + 1 < Config.windowCycles then
      { s with thermal := { s.thermal with cycle := some (k + 1), gate := s.fires (k + 1) } }
    else s.endWindow.startWindow
  | none => s.startWindow

/-- A period that counts: 15,385..22,222 µs (R102). -/
def countedPeriod (period : Nat) : Bool :=
  decide (Config.us 15385 ≤ period) && decide (period ≤ Config.us 22222)

/-- MAINS_ZERO_CROSSING: counted or ignored; a counted one restarts the loss timer and begins a cycle (R102,
R103). -/
def execMainsZeroCrossing (dt : Nat) (s : State) : Step :=
  let s1 := s.after dt
  let s2 : State := { s1 with thermal := { s1.thermal with lastCrossing := some s1.now } }
  .next (match s.thermal.lastCrossing with
    | some before =>
      let period := s1.now - before
      if countedPeriod period then
        State.beginCycle { s2 with thermal := { s2.thermal with
          lastPeriod := some period, lossTimer := some (s1.now + 3 * period) } }
      else s2
    | none => s2)

/-- The window in progress is abandoned: its remaining cycles do not fire, its MAINS request belongs to no
window, and the accumulation is emptied (R103, R104, R134). Its duty becomes 0 (DESIGN CHOICE, log entry 35). -/
def State.abandonWindow (s : State) : State :=
  State.updateVent
    { s with
      thermal := { s.thermal with cycle := none, grant := 0, duty := 0, gate := false }
      blade := { s.blade with powerSum := 0, powerCount := 0 }
      converter := s.converter.orphanMains }

/-- MAINS_LOSS_TIMEOUT: the loss timer runs out (R103). -/
def execMainsLossTimeout (s : State) : Step :=
  .next (match s.thermal.lossTimer with
    | some moment =>
      let s1 := s.reach moment
      State.setMains (State.abandonWindow { s1 with thermal := { s1.thermal with lossTimer := none } }) .lost
    | none => s)

/-- VENT_FAN_RUNOUT_END (R117). -/
def execVentFanRunoutEnd (s : State) : Step :=
  .next (match s.thermal.vent with
    | .runout moment =>
      let s1 := s.reach moment
      { s1 with thermal := { s1.thermal with vent := .off } }
    | .off | .on => s)

/-! ## Settings -/

/-- LOAD HEATER DATA's own rule (R116). -/
def loadHeaterDataRule (rh rating kmains : Half) (s : State) : Executed :=
  let r := clampNat 2000 6000 rh.toNat
  let e := clampNat 500 2000 rating.toNat
  let k := clampNat 2000 4000 kmains.toNat
  let clamped := r != rh.toNat || e != rating.toNat || k != kmains.toNat
  ({ s with thermal := { s.thermal with rh := r, rating := e, kmains := k } },
    ⟨okOr clamped, u16 r ++ u16 e ++ u16 k⟩)

/-- LOAD HEATER DATA (R116). -/
def execLoadHeaterData (p : Port) (rh rating kmains : Half) (s : State) : Step :=
  .next (runCommand s p 0xA9 (halfBytes rh ++ halfBytes rating ++ halfBytes kmains)
    (inConfig (loadHeaterDataRule rh rating kmains)))

/-- The thermistor staging area replaced (R200). -/
def State.setStaging (s : State) (v : Option (Port × List RawPoint)) : State :=
  { s with bus := { s.bus with staging := v } }

/-- LOAD THERMISTOR TABLE, FIRST: the nine points are staged as written, with the sending port (R200). -/
def loadTableFirstRule (p : Port) (half : Byte) (points : List RawPoint) (s : State) : Executed :=
  if half.toNat = 0 ∧ points.length = 9 then (s.setStaging (some (p, points)), ⟨.ok, []⟩) else refuse s .badValue

/-- LOAD_THERMISTOR_TABLE_FIRST (R200). -/
def execLoadThermistorTableFirst (p : Port) (half : Byte) (points : List RawPoint) (s : State) : Step :=
  .next (runCommand s p 0xAA (half :: pointBytes points) (inConfig (loadTableFirstRule p half points)))

/-- A point brought into range (R97). -/
def clampPoint (r : RawPoint) : Nat × Int := (clampNat 0 4095 r.1.toNat, clampInt (-500) 4000 r.2.toInt)

/-- The codes strictly rise and the temperatures strictly fall (R95, R97). -/
def tableInOrder : List (Nat × Int) → Bool
  | (c0, t0) :: (c1, t1) :: rest => decide (c0 < c1) && decide (t1 < t0) && tableInOrder ((c1, t1) :: rest)
  | _ => true

/-- A point that is out of range (R97). -/
def pointClamped (r : RawPoint) : Bool := decide (clampPoint r ≠ (r.1.toNat, r.2.toInt))

/-- The seventeen points are clamped, checked for order and loaded (R97). -/
def loadTable (points : List RawPoint) (s : State) : Executed :=
  let table := points.map clampPoint
  if tableInOrder table then
    ({ s with thermal := { s.thermal with table := table } }, ⟨okOr (points.any pointClamped), []⟩)
  else refuse s .tableOrder

/-- LOAD THERMISTOR TABLE, SECOND: with staging from the same port the table is loaded, and staging is emptied
whatever the reply (R97, R200). -/
def loadTableSecondRule (p : Port) (half : Byte) (points : List RawPoint) (s : State) : Executed :=
  if half.toNat = 1 ∧ points.length = 8 then
    match s.bus.staging with
    | some (q, first) => if q = p then loadTable (first ++ points) (s.setStaging none) else refuse s .badValue
    | none => refuse s .badValue
  else refuse s .badValue

/-- LOAD_THERMISTOR_TABLE_SECOND (R97, R200). -/
def execLoadThermistorTableSecond (p : Port) (half : Byte) (points : List RawPoint) (s : State) : Step :=
  .next (runCommand s p 0xAA (half :: pointBytes points) (inConfig (loadTableSecondRule p half points)))

/-- SET BUDGET's own rule (R138). -/
def setBudgetRule (watts : Half) (s : State) : Executed :=
  let w := clampNat 600 3600 watts.toNat
  ({ s with budget := { s.budget with watts := w, overCount := 0, underCount := 0 } },
    ⟨okOr (w != watts.toNat), u16 w⟩)

/-- SET BUDGET (R138). -/
def execSetBudget (p : Port) (watts : Half) (s : State) : Step :=
  .next (runCommand s p 0xA4 (halfBytes watts) (inConfig (setBudgetRule watts)))

end Sys2Proof.Machine
end

