-- ==== Sys2Proof/Machine/NoticeCommands.lean ====
section
/-! DEFINITION. The commands of the Notice Unit: TAKE NOTICE (R172, R173) and SET SUBSCRIPTION (R168). -/

namespace Sys2Proof.Machine

/-- A list after its head is taken: LOST is cleared when it becomes empty (R172). -/
def NoticeList.afterTake (l : NoticeList) : NoticeList :=
  { l with entries := l.entries.tail, lost := l.lost && !l.entries.tail.isEmpty }

/-- TAKE NOTICE's own rule on the list of the sending port (R173). -/
def takeNoticeRule (p : Port) (s : State) : Executed :=
  let l := s.notices.get p
  match l.entries with
  | [] => (s, ⟨.ok, []⟩)
  | head :: rest =>
    ({ s with notices := s.notices.set p l.afterTake },
      ⟨.ok, noticeBytes head ++ u8 rest.length ++ flag l.afterTake.lost⟩)

/-- TAKE NOTICE (R173). -/
def execTakeNotice (p : Port) (s : State) : Step := .next (runCommand s p 0x10 [] (takeNoticeRule p))

/-- SET SUBSCRIPTION's own rule (R168). -/
def setSubscriptionRule (p : Port) (marks : Half) (s : State) : Executed :=
  let l := s.notices.get p
  ({ s with notices := s.notices.set p { l with subscription := marks } }, ⟨.ok, halfBytes marks⟩)

/-- SET SUBSCRIPTION (R168). -/
def execSetSubscription (p : Port) (marks : Half) (s : State) : Step :=
  .next (runCommand s p 0x11 (halfBytes marks) (setSubscriptionRule p marks))

end Sys2Proof.Machine
end

