-- ==== Sys2Proof/Machine/Views.lean ====
section
/-! DEFINITION. The views (R92, R185 to R187, section 12.4) and SELECT VIEW (R185). -/

namespace Sys2Proof.Machine

/-! ## The bodies of the views (12.4) -/

/-- The mass flags: settled, tare pending, and the range flag (12.4). -/
def Weigh.massFlags (w : Weigh) : Nat :=
  w.settled.isSome.toNat + 2 * w.tarePending.toNat + 4 * w.shownRange.code

/-- The line byte: the stop latch and the three filtered levels (12.4). -/
def Safety.lineByte (s : Safety) : Nat :=
  s.stopLatch.toNat + 2 * s.heatPermit.active.toNat + 4 * s.motionPermit.active.toNat
    + 8 * s.lidClosed.active.toNat

/-- STATUS, as a port sees it (R187). -/
def State.statusBody (s : State) (p : Port) : List Byte :=
  u8 s.run.state.code ++ u8 s.run.cursor ++ u8 s.run.phase.code ++ u8 s.program.length
    ++ holdBytes s.program ++ u16 s.run.causes.code ++ i24 s.weigh.net ++ u8 s.weigh.massFlags
    ++ u8 s.weigh.shownKind.code ++ optTemp s.thermal.tb ++ u16 s.thermal.grant ++ u8 s.blade.commanded
    ++ u8 (actualLevel s.blade.actual) ++ u8 s.safety.lease.code ++ u8 s.safety.lineByte
    ++ u8 (s.notices.get p).entries.length

/-- REPLY: the reply slot of a port (R181). -/
def ReplySlot.body (r : ReplySlot) : List Byte :=
  u8 (r.code.isSome.toNat + 2 * r.result.isSome.toNat) ++ [r.code.getD 0]
    ++ u8 ((r.result.map ResultCode.code).getD 0) ++ u8 r.data.length ++ padTo 24 r.data

/-- STEP n (R1). -/
def Program.stepBody (p : Program) (n : Nat) : List Byte :=
  match p.steps[n]? with
  | some r => u8 1 ++ recordBytes r
  | none => u8 0

/-- The number that the first slot of LOG k shows: the oldest held number for k = 0 (R92). -/
def IngredientLog.slotStart (log : IngredientLog) (k : Nat) : Nat :=
  if k = 0 then (log.entries.head?.map Entry.number).getD 0 else k

/-- The held entry of a number (R92). -/
def IngredientLog.held (log : IngredientLog) (n : Nat) : Option Entry :=
  log.entries.find? fun e => decide (e.number = n)

/-- LOG k (R92). -/
def IngredientLog.body (log : IngredientLog) (k : Nat) : List Byte :=
  let r := log.refs.getD ⟨0, 0, 0⟩
  let n := log.slotStart k
  u8 (log.isOpen.toNat + 2 * log.exhausted.toNat + 4 * log.refs.isSome.toNat) ++ u8 log.entries.length
    ++ u16 ((log.entries.head?.map Entry.number).getD 0) ++ u16 log.nextNumber ++ i24 r.origin
    ++ i24 r.baseline ++ i24 r.last ++ i24 log.dropped ++ entryBytes (log.held n)
    ++ entryBytes (log.held (n + 1)) ++ entryBytes (log.held (n + 2)) ++ entryBytes (log.held (n + 3))

/-- NOTICES: a port's list from its head, with LOST (R169). -/
def NoticeList.body (l : NoticeList) : List Byte :=
  flag l.lost ++ u8 l.entries.length ++ padTo 144 (l.entries.map noticeBytes).flatten

/-- A line's function, latch and read-back (R190). -/
def State.lineBytes (s : State) (l : AuxLine) : List Byte :=
  u8 l.function.code ++ flag l.latch ++ flag (s.readBack l)

/-- LINES (R190). -/
def State.linesBody (s : State) : List Byte := (s.aux.lines.map s.lineBytes).flatten

/-- CONFIG (R187). -/
def State.configBody (s : State) : List Byte :=
  calibrationBytes s.weigh.cal ++ policyBytes s.weigh.policy
    ++ (u16 s.thermal.rh ++ u16 s.thermal.rating ++ u16 s.thermal.kmains) ++ tableBytes s.thermal.table
    ++ u16 s.budget.watts ++ u8 s.safety.interval ++ u16 s.safety.limit
    ++ filterPairBytes s.bus.filters.console ++ filterPairBytes s.bus.filters.safety
    ++ filterPairBytes s.bus.filters.link ++ filterPairBytes s.bus.filters.service
    ++ flag s.bus.serviceEnable ++ flag s.bus.highBase

/-- The body of the selected view of a port. -/
def State.viewBody (s : State) (p : Port) : List Byte :=
  let sel := s.bus.views.get p
  match sel.view with
  | .status => s.statusBody p
  | .reply => (s.bus.slots.get p).body
  | .step => s.program.stepBody sel.number
  | .result => resultBytes (s.program.results.getD sel.number .cleared)
  | .log => s.log.body sel.number
  | .notices => (s.notices.get p).body
  | .lines => s.linesBody
  | .config => s.configBody

/-- The view header: the selection, then the slot's state and queued count (12.4). -/
def State.viewHeader (s : State) (p : Port) : List Byte :=
  u8 (s.bus.views.get p).view.code ++ u16 (s.bus.views.get p).number
    ++ u8 (s.bus.slotState p + 16 * s.bus.queuedCount p)

/-- The content a read of a port captures (R186). -/
def State.viewBytes (s : State) (p : Port) : List Byte := s.viewHeader p ++ s.viewBody p

/-- The byte that a read returns at the `i`th clocked byte: after the last byte comes byte 0 again (R186). -/
def readByte (snapshot : List Byte) (i : Nat) : Byte := snapshot.getD (i % snapshot.length) 0

/-! ## SELECT VIEW -/

/-- The view carries the number that is written (R185). -/
def View.carriesNumber : View → Bool
  | .step | .result | .log => true
  | .status | .reply | .notices | .lines | .config => false

/-- The view's number is a step index (R185). -/
def View.carriesIndex : View → Bool
  | .step | .result => true
  | .status | .reply | .log | .notices | .lines | .config => false

/-- SELECT VIEW's own rule (R185). -/
def selectViewRule (p : Port) (view : Byte) (number : Half) (s : State) : Executed :=
  match View.ofCode view with
  | none => refuse s .badValue
  | some v =>
    if v.carriesIndex && decide (Config.tableSize ≤ number.toNat) then refuse s .badIndex
    else
      let n := if v.carriesNumber then number.toNat else 0
      ({ s with bus := { s.bus with views := s.bus.views.set p { view := v, number := n } } },
        ⟨.ok, u8 v.code ++ u16 n⟩)

/-- SELECT VIEW (R185). -/
def execSelectView (p : Port) (view : Byte) (number : Half) (s : State) : Step :=
  .next (runCommand s p 0x00 (view :: halfBytes number) (selectViewRule p view number))

end Sys2Proof.Machine
end

