-- ==== Sys2Proof/Machine/Ports.lean ====
section
/-! DEFINITION. The bus ports: the phases of a write and of a read (R177, R179, R180, R186), the frame that no
command reads (R182), and the settings of the ports (R178, R184). -/

namespace Sys2Proof.Machine

/-! ## Transactions -/

/-- WRITE_ADDRESS_PHASE: the address is acknowledged, and a place reserved, when it is an enabled address and
the queue holds fewer than 8 frames (R177, R179). While a write holds its place no other address phase can
come before its end, and nothing happens (DEDUCED, log entry 12). -/
def execWriteAddressPhase (dt : Nat) (address : BitVec 7) (s : State) : Step :=
  let s1 := s.after dt
  .next (match s1.bus.writing with
    | some _ => s1
    | none =>
      match s1.bus.portAt address.toNat with
      | some p =>
        if s1.bus.queue.length < Config.queuePlaces then
          { s1 with bus := { s1.bus with writing := some p, acknowledged := true } }
        else { s1 with bus := { s1.bus with acknowledged := false } }
      | none => { s1 with bus := { s1.bus with acknowledged := false } })

/-- The frame of a write of these data bytes: 40 of them are stored (R180). -/
def frameOfWrite (p : Port) (bytes : List Byte) : Frame :=
  { port := p, bytes := bytes.take Config.frameBytes, tooLong := decide (Config.frameBytes < bytes.length) }

/-- The answers to the data bytes of a write: each of the first 40 is acknowledged, and each after it is not
(R180). -/
def dataAnswersOf (bytes : List Byte) : List Bool :=
  (List.range bytes.length).map fun i => decide (i < Config.frameBytes)

/-- WRITE_END: the write that holds the reserved place ends with these data bytes, each answered. With none the
reservation is released, and otherwise the frame joins the queue (R180). Without such a write nothing
happens. -/
def execWriteEnd (dt : Nat) (bytes : List Byte) (s : State) : Step :=
  let s1 := s.after dt
  .next (match s1.bus.writing with
    | some p =>
      let joined := if bytes = [] then s1.bus.queue else s1.bus.queue ++ [frameOfWrite p bytes]
      { s1 with bus := { s1.bus with writing := none, queue := joined, dataAnswers := dataAnswersOf bytes } }
    | none => s1)

/-- The levels present on the eight pins, as an event shows them. -/
def Aux.setPins (a : Aux) (pins : Byte) : Aux :=
  { a with lines := a.lines.mapIdx fun i l => { l with pin := pins.getLsbD i } }

/-- READ_ADDRESS_PHASE: at an enabled address the port's selected view is captured as the snapshot (R177,
R186). -/
def execReadAddressPhase (dt : Nat) (address : BitVec 7) (pins : Byte) (s : State) : Step :=
  let s1 := s.after dt
  .next (match s1.bus.portAt address.toNat with
    | some p =>
      let s2 : State := { s1 with aux := s1.aux.setPins pins }
      { s2 with bus := { s2.bus with acknowledged := true, snapshot := some (p, s2.viewBytes p) } }
    | none => { s1 with bus := { s1.bus with acknowledged := false } })

/-! ## A frame that spells no command -/

/-- BAD_FRAME: a frame that fails stage 1 or 2 of R182 is taken and refused; its code is its second byte,
absent where it has none (R181, R182). A frame that spells a command is that command's row, and nothing
happens here. -/
def execBadFrame (p : Port) (bytes : List Byte) (tooLong : Bool) (s : State) : Step :=
  let f : Frame := { port := p, bytes := bytes, tooLong := tooLong }
  .next (if f.isBad then
      match s.takeFrame f with
      | some s1 => s1.recordReply p bytes[1]? ⟨.badFrame, []⟩
      | none => s
    else s)

/-! ## Settings -/

/-- The choice of filter that a byte names: A, or B (12.2). -/
def FilterPair.put (f : FilterPair) (choice : Nat) (new : Filter) : FilterPair :=
  if choice = 0 then { f with a := new } else { f with b := new }

/-- The operands of SET ACCEPTANCE after its port name choices and 4-bit values (R184). -/
def acceptanceInRange (filter enable code mask : Byte) : Bool :=
  decide (filter.toNat ≤ 1) && decide (enable.toNat ≤ 1) && decide (code.toNat ≤ 15) &&
    decide (mask.toNat ≤ 15)

/-- SET ACCEPTANCE's own rule; its reply has the four bytes that the CONFIG view gives a port (R184; DEDUCED,
log entry 20). -/
def setAcceptanceRule (p : Port) (port filter enable code mask : Byte) (s : State) : Executed :=
  match portOfCode port with
  | none => refuse s .badValue
  | some q =>
    if acceptanceInRange filter enable code mask then
      let new : Filter := { enabled := decide (enable.toNat = 1), code := code.extractLsb' 0 4,
                            mask := mask.extractLsb' 0 4 }
      let pair := (s.bus.filters.get q).put filter.toNat new
      if q = p ∧ ¬ pair.passes configClass then refuse s .badValue
      else ({ s with bus := { s.bus with filters := s.bus.filters.set q pair } }, ⟨.ok, filterPairBytes pair⟩)
    else refuse s .badValue

/-- SET ACCEPTANCE (R184). -/
def execSetAcceptance (p : Port) (port filter enable code mask : Byte) (s : State) : Step :=
  .next (runCommand s p 0xA2 [port, filter, enable, code, mask]
    (inConfig (setAcceptanceRule p port filter enable code mask)))

/-- A port other than Service accepts class 10 (R178). -/
def Bus.otherAcceptsConfig (b : Bus) : Bool :=
  b.accepts .console configClass || b.accepts .safety configClass || b.accepts .link configClass

/-- SET SERVICE's own rule (R178). DISABLE while no other port accepts class 10 is refused, whatever the present
enable (DESIGN CHOICE, log entry 33). -/
def setServiceRule (choice : Byte) (s : State) : Executed :=
  if 1 < choice.toNat then refuse s .badValue
  else if choice.toNat = 0 ∧ ¬ s.bus.otherAcceptsConfig then refuse s .badValue
  else
    ({ s with bus := { s.bus with serviceEnable := decide (choice.toNat = 1) } }, ⟨.ok, u8 choice.toNat⟩)

/-- SET SERVICE (R178). -/
def execSetService (p : Port) (choice : Byte) (s : State) : Step :=
  .next (runCommand s p 0xA3 [choice] (inConfig (setServiceRule choice)))

end Sys2Proof.Machine
end

