-- ==== Sys2Proof/Machine/Resets.lean ====
section
/-! DEFINITION. The two resets: POWER_ON_RESET and WARM RESET, with the values that each chapter's last rule
leaves (R20, R50, R77, R93, R118, R135, R142, R150, R165, R176, R188, R189, R197). -/

namespace Sys2Proof.Machine

/-- POWER_ON_RESET: every block takes its power-on values, and ADDRSEL and STOP_N are sampled; the model's
queue of commands and events stays (DESIGN CHOICE, log entry 3). -/
def execPowerOnReset (addrsel stopN : Bool) (s : State) : Step :=
  .next { State.powerOn addrsel stopN with pending := s.pending }

/-- The step table after a warm reset (R20). -/
def Program.warm (p : Program) : Program := { p with results := List.replicate Config.tableSize .cleared }

/-- The weighing unit after a warm reset (R77). -/
def Weigh.warm (w : Weigh) : Weigh :=
  { w with
    lastKind := none, history := [], recent := [], reported := 0, range := .ok, settled := none, tare := 0,
    tareTimer := none, nearArmed := false }

/-- The thermal unit after a warm reset, but for the vent fan (R118). No crossing counts against one that
came before the reset (R102; DEDUCED, log entry 16). The duty of the abandoned window is 0 (DESIGN CHOICE, log
entry 35). -/
def Thermal.warm (t : Thermal) : Thermal :=
  { t with
    base := .none, element := .none, cell := .none, baseHistory := [], lastCrossing := none, setPoint := none,
    cycle := none, grant := 0, duty := 0, gate := false }

/-- The blade drive's own values after a warm reset, but for the brake (R135). The latest power sample, which R135
names for the power-on reset alone, is kept (DESIGN CHOICE, log entry 35). -/
def Blade.warm (b : Blade) : Blade :=
  { b with powerSum := 0, powerCount := 0, pmot := 0, effective := 0, ramp := none, settle := none }

/-- The mains budget after a warm reset (R142): the effective level is 0. -/
def Budget.warm (b : Budget) : Budget :=
  { b with remainder := b.watts - Config.reserve, overCount := 0, underCount := 0, ceiling := none, peak := 0 }

/-- The safety block after a warm reset (R165). -/
def Safety.warm (s : Safety) : Safety :=
  { s with
    stopLatch := s.stopN, limit := 1500, lease := .unarmed, period := 5, locked := false, count := 0,
    keySequence := false }

/-- A notice list after a warm reset (R176). -/
def NoticeList.warm (l : NoticeList) : NoticeList := { l with entries := [], lost := false }

/-- The Bus Target Unit after a warm reset, before the sender's slot is written (R188, R200). -/
def Bus.warm (b : Bus) : Bus :=
  { b with queue := [], slots := .all .empty, views := .all .status, staging := none }

/-- The auxiliary lines after a warm reset, before the lid lock is evaluated again (R197). -/
def Aux.warm (a : Aux) : Aux := { a with buzzer := none, lamp := false }

/-- Every block takes its warm-reset values; then the vent fan, the blade and the lid lock follow them (R117,
R135, R197). No notice is sent. The run controller's reached mark, which R50 does not name at a warm reset, is
absent (DESIGN CHOICE, log entry 35). -/
def State.warmReset (s : State) : State :=
  let s1 : State :=
    { s with
      program := s.program.warm
      run := { Run.reset with state := s.restState }
      weigh := s.weigh.warm
      log := .cleared
      thermal := s.thermal.warm
      blade := s.blade.warm
      budget := s.budget.warm
      converter := .reset
      safety := s.safety.warm
      notices := s.notices.map NoticeList.warm
      bus := s.bus.warm
      aux := s.aux.warm }
  (s1.updateVent.handStir .zero).brake

/-- WARM RESET's own rule; its outcome goes to the sender's emptied slot (R188). -/
def warmResetRule (s : State) : Executed :=
  let s1 := s.warmReset
  (s1, ⟨.ok, u8 s1.run.state.code⟩)

/-- WARM RESET (R188). -/
def execWarmReset (p : Port) (s : State) : Step := .next (runCommand s p warmResetCode [] warmResetRule)

end Sys2Proof.Machine
end

