-- ==== Sys2Proof/Machine/Running.lean ====
section
/-! DEFINITION. The commands of a run, of manual operation and of configuration (R24, R36 to R41, R46 to
R48), and the events of the run's own time: the run clock, the active time, TIME_DONE and OVERDUE (R23, R28,
R29, R32). -/

namespace Sys2Proof.Machine

/-! ## Commands of a run -/

/-- START, executed: results and log cleared, log open, clock, cursor and phase, empty sets, RUNNING, and the
arrival at index 0 (R24, R79). -/
def State.startRun (s : State) : State :=
  let s1 : State := { s with
    program := { s.program with results := List.replicate Config.tableSize .cleared }
    log := { IngredientLog.cleared with isOpen := true }
    run := { s.run with clock := 0, cursor := 0, phase := .beforeEntry, causes := {}, met := [] } }
  (s1.setRunState .running).arrive

/-- START's own rule (R24). -/
def startRule (s : State) : Executed :=
  if s.run.state = .ready ∨ s.run.state = .done then
    if s.safety.stopLatch then refuse s .interlock else runReply s.startRun .ok
  else refuse s .refusedState

/-- START (R24). -/
def execStart (p : Port) (s : State) : Step := .next (runCommand s p 0x40 [] startRule)

/-- PAUSE's own rule (R36). -/
def pauseRule (s : State) : Executed :=
  if s.run.state.inRun then runReply (s.addCauses { pause := true }) .ok else refuse s .refusedState

/-- PAUSE (R36). -/
def execPause (p : Port) (s : State) : Step := .next (runCommand s p 0x20 [] pauseRule)

/-- The step's heat and stir set points are given back (R35, R37). -/
def State.restoreStep (s : State) : State :=
  match s.record with
  | some r => s.handHeat.handStir r.stirPoint
  | none => s.handIdle

/-- RESUME, executed: the set is emptied, the run is RUNNING, and the step is entered or goes on with its end
decision (R37). -/
def State.resumeRun (s : State) : State :=
  let s1 := (s.setCauses {}).setRunState .running
  let s2 : State := { s1 with run := { s1.run with countRose := false } }
  if s.run.phase = .active then s2.restoreStep.decideEnd else s2.enterStep

/-- RESUME's own rule (R37). -/
def resumeRule (s : State) : Executed :=
  if s.run.state = .held then
    if s.run.causes.hasInterlock then refuse s .interlock else runReply s.resumeRun .ok
  else refuse s .refusedState

/-- RESUME (R37). -/
def execResume (p : Port) (s : State) : Step := .next (runCommand s p 0x41 [] resumeRule)

/-- SKIP, executed, in RUNNING or HELD (R38, R39). -/
def State.skipStep (s : State) : State :=
  let s1 := s.skipResult.advance
  if s.run.state = .held then (if s1.atEnd then s1.finishRun else s1.holdNext) else s1.proceed

/-- SKIP's own rule (R38, R39). -/
def skipRule (s : State) : Executed :=
  if s.run.state.inRun then runReply s.skipStep .ok else refuse s .refusedState

/-- SKIP (R38, R39). -/
def execSkip (p : Port) (s : State) : Step := .next (runCommand s p 0x42 [] skipRule)

/-- The outcome of the step at the cursor that an ABORT marks ABORTED: an ACTIVE step of a run, or a result
that the entry into HALTED left ACTIVE (R41). -/
def State.abortsStep (s : State) : Bool :=
  s.stepActive ||
    (decide (s.run.state = .halted) &&
      decide ((s.program.results.getD s.run.cursor .cleared).outcome = .active))

/-- ABORT, executed, in RUNNING, HELD, HALTED or MANUAL (R41). -/
def State.abortRun (s : State) : State :=
  let s1 := if s.abortsStep then s.closeResult .aborted none else s
  ((((s1.setCauses {}).setPhase .beforeEntry).clearManual).setRunState s.restState).closeLog.handIdle

/-- ABORT's own rule (R41). -/
def abortRule (s : State) : Executed :=
  match s.run.state with
  | .running | .held | .halted | .manual => runReply s.abortRun .ok
  | .idle | .ready | .done | .config | .faulted => refuse s .refusedState

/-- ABORT (R41). -/
def execAbort (p : Port) (s : State) : Step := .next (runCommand s p 0x43 [] abortRule)

/-- CONFIRM's own rule (R40). -/
def confirmRule (step : Byte) (s : State) : Executed :=
  if s.run.state.inRun && decide (step.toNat = s.run.cursor) && decide (s.run.phase = .active) then
    if s.record.any fun r => r.prompt.isSome then
      let s1 := s.latch .confirmed
      (s1, ⟨.ok, u8 s1.run.cursor ++ metBytes s1.run.met⟩)
    else refuse s .badValue
  else refuse s .stale

/-- CONFIRM (R40). -/
def execConfirm (p : Port) (step : Byte) (s : State) : Step :=
  .next (runCommand s p 0x30 [step] (confirmRule step))

/-! ## Manual operation -/

/-- The run states in which MANUAL SET is executed (R46). -/
def RunState.allowsManual : RunState → Bool
  | .idle | .ready | .done | .manual => true
  | .running | .held | .config | .halted | .faulted => false

/-- Stage 5 of MANUAL SET: the manual set points, MANUAL, no derate, and the handover (R46, R141). The ceiling
goes before the new set points are handed over, in the order of stages 4 and 5 of R26 (DESIGN CHOICE, log entry
32). -/
def State.setManual (s : State) (level : Nat) (heat : Option (Nat × Nat)) : State :=
  let s1 : State := { s with run := { s.run with manualLevel := level, manualHeat := heat } }
  ((s1.setRunState .manual).removeDerate.handHeat).handStir
    { level := level, direction := some .forward, pattern := .continuous }

/-- MANUAL SET's own rule, in the order of R46. -/
def manualSetRule (level heatPresent : Byte) (target cap : Half) (s : State) : Executed :=
  let l := clampNat 0 12 level.toNat
  let t := clampNat 300 1600 target.toNat
  let c := clampNat 50 1500 cap.toNat
  let heat := if heatPresent.toNat = 1 then some (t, c) else none
  let clamped := l != level.toNat || (heat.isSome && (t != target.toNat || c != cap.toNat))
  if !s.run.state.allowsManual then refuse s .refusedState
  else if 1 < heatPresent.toNat then refuse s .badValue
  else if l = 0 ∧ heat = none then
    runReply (if s.run.state = .manual then s.endManual else s) .ok
  else if s.safety.stopLatch then refuse s .interlock
  else if (s.manualInterlocks l heat.isSome).isEmpty then runReply (s.setManual l heat) (okOr clamped)
  else refuse s .interlock

/-- MANUAL SET (R46). -/
def execManualSet (p : Port) (level heatPresent : Byte) (target cap : Half) (s : State) : Step :=
  .next (runCommand s p 0x80 (level :: heatPresent :: (halfBytes target ++ halfBytes cap))
    (manualSetRule level heatPresent target cap))

/-- MANUAL STOP's own rule (R47). -/
def manualStopRule (s : State) : Executed :=
  if s.run.state = .manual then runReply s.endManual .ok else refuse s .refusedState

/-- MANUAL STOP (R47). -/
def execManualStop (p : Port) (s : State) : Step := .next (runCommand s p 0x81 [] manualStopRule)

/-! ## Configuration -/

/-- ENTER CONFIG's own rule (R48). -/
def enterConfigRule (s : State) : Executed :=
  match s.run.state with
  | .idle | .ready | .done => runReply (s.setRunState .config).handIdle .ok
  | .running | .held | .manual | .config | .halted | .faulted => refuse s .refusedState

/-- ENTER CONFIG (R48). -/
def execEnterConfig (p : Port) (s : State) : Step := .next (runCommand s p 0xA0 [] enterConfigRule)

/-- LEAVE CONFIG's own rule: it also empties the thermistor staging area (R48, R200). -/
def leaveConfigRule (s : State) : Executed :=
  inConfig (fun s =>
    let s1 := s.setRunState s.restState
    runReply { s1 with bus := { s1.bus with staging := none } } .ok) s

/-- LEAVE CONFIG (R48). -/
def execLeaveConfig (p : Port) (s : State) : Step := .next (runCommand s p 0xA1 [] leaveConfigRule)

/-! ## The run's own time -/

/-- RUN_CLOCK_TICK (R23). -/
def execRunClockTick (dt : Nat) (s : State) : Step :=
  let s1 := s.after dt
  .next (if s1.run.state.inRun then
      { s1 with run := { s1.run with clock := min Config.maxClock (s1.run.clock + 1) } }
    else s1)

/-- The active time rises by 1 up to 144,000, and the result at the cursor follows it (R28, R11). A tick that finds
it at 144,000 leaves it there and counts as a rise, so that TIME_DONE can latch after a RESUME (R29, R32;
DESIGN CHOICE, log entry 31). -/
def State.riseActive (s : State) : State :=
  let n := min Config.maxActive (s.run.active + 1)
  let s1 : State := { s with run := { s.run with active := n, countRose := true } }
  s1.editResult fun r => { r with activeTime := n }

/-- ACTIVE_TIME_TICK: in RUNNING with the step ACTIVE (R28). -/
def execActiveTimeTick (dt : Nat) (s : State) : Step :=
  let s1 := s.after dt
  .next (if s1.run.state = .running ∧ s1.run.phase = .active then s1.riseActive else s1)

/-- The time count of a Time part has reached its duration; a count that would pass 144,000 reaches it there
(R29). -/
def Run.timeReached (r : Run) (t : TimePart) : Bool :=
  match t.start with
  | .fromEntry => decide (t.duration * 10 ≤ r.active)
  | .fromReached =>
    match r.reached with
    | some mark => decide (mark + t.duration * 10 ≤ r.active) || decide (Config.maxActive ≤ r.active)
    | none => false

/-- TIME_DONE can happen: RUNNING with the step ACTIVE, its active time risen to the duration (R29). -/
def State.timeIsDone (s : State) : Bool :=
  decide (s.run.state = .running) && s.run.countRose &&
    (s.activeRecord.bind StepRecord.time).any s.run.timeReached

/-- TIME_DONE (R29). -/
def execTimeDone (s : State) : Step := .next (if s.timeIsDone then s.latch .timeDone else s)

/-- The limit of the current step is reached while the overdue-taken flag is clear (R32). -/
def State.isOverdue (s : State) : Bool :=
  decide (s.run.state = .running) && s.run.countRose && !s.run.overdueTaken &&
    (s.activeRecord.bind StepRecord.limit).any fun l => decide (l * 10 ≤ s.run.active)

/-- OVERDUE (R32). -/
def execOverdue (s : State) : Step :=
  .next (if s.isOverdue then
      State.addCauses { s with run := { s.run with overdueTaken := true } } { overdue := true }
    else s)

end Sys2Proof.Machine
end

