-- ==== Sys2Proof/Machine/SafetyLease.lean ====
section
/-! DEFINITION. The safety block: the filtered lines and their filter (R151 to R153), the stop latch (R154 to
R156), the safety limit (R157) and the safety lease (R158 to R164). -/

namespace Sys2Proof.Machine

/-! ## Filtered lines -/

/-- A line after one sample, by R151. -/
def Filtered.sample (f : Filtered) (level : Bool) : Filtered :=
  if level = f.active then { f with count := 0 }
  else if 3 ≤ f.count + 1 then { active := level, count := 0 }
  else { f with count := f.count + 1 }

/-- The filter of a line. -/
def Safety.line (s : Safety) : SlowLine → Filtered
  | .heatPermit => s.heatPermit
  | .motionPermit => s.motionPermit
  | .lidClosed => s.lidClosed

/-- The filter of a line replaced. -/
def Safety.setLine (s : Safety) (l : SlowLine) (f : Filtered) : Safety :=
  match l with
  | .heatPermit => { s with heatPermit := f }
  | .motionPermit => { s with motionPermit := f }
  | .lidClosed => { s with lidClosed := f }

/-- One line takes a sample. A change of its filtered level is handed to heat and motion enable, sends
PERMIT_CHANGE, and is then examined by the run controller (R151, R152). -/
def State.sampleLine (s : State) (l : SlowLine) (level : Bool) : State :=
  let f := (s.safety.line l).sample level
  let s1 : State := { s with safety := s.safety.setLine l f }
  if f.active = (s.safety.line l).active then s1
  else
    let s2 := s.gates s1
    (s2.send .permitChange s2.runIndex (some (.lineChange l f.active))).examine

/-- LINE_FILTER_SAMPLE: the sampler takes one sample of each line (R151); the lines are treated in the order
of their codes (DESIGN CHOICE, log entry 10). -/
def execLineFilterSample (heat motion lid : Bool) (s : State) : Step :=
  let s1 := s.reach s.safety.samplerDue
  let s2 : State := { s1 with
    safety := { s1.safety with samplerDue := s1.safety.samplerDue + Config.ms s1.safety.interval } }
  .next (((s2.sampleLine .heatPermit heat).sampleLine .motionPermit motion).sampleLine .lidClosed lid)

/-- A line's disagreement count set to 0 (R153). -/
def Filtered.restart (f : Filtered) : Filtered := { f with count := 0 }

/-- SET LINE FILTER's own rule (R153). -/
def setLineFilterRule (interval : Byte) (s : State) : Executed :=
  let n := interval.toNat
  if n = 1 ∨ n = 4 ∨ n = 16 then
    ({ s with safety := { s.safety with
        interval := n, samplerDue := s.now + Config.ms n
        heatPermit := s.safety.heatPermit.restart
        motionPermit := s.safety.motionPermit.restart
        lidClosed := s.safety.lidClosed.restart } },
      ⟨.ok, u8 n⟩)
  else refuse s .badValue

/-- SET LINE FILTER (R153). -/
def execSetLineFilter (p : Port) (interval : Byte) (s : State) : Step :=
  .next (runCommand s p 0xA6 [interval] (inConfig (setLineFilterRule interval)))

/-! ## The stop latch -/

/-- STOP_N_ASSERTED: the line is asserted and sets the latch (R154). -/
def execStopNAsserted (dt : Nat) (s : State) : Step :=
  let s1 := s.after dt
  .next (State.setStopLatch { s1 with safety := { s1.safety with stopN := true } })

/-- STOP_N_RELEASED: the line is no longer asserted, and the latch stays as it is (R154). -/
def execStopNReleased (dt : Nat) (s : State) : Step :=
  let s1 := s.after dt
  .next { s1 with safety := { s1.safety with stopN := false } }

/-- The reply data of SAFETY STOP and SAFETY CLEAR: the stop latch and the run state (R155, R156). -/
def State.latchData (s : State) : List Byte := flag s.safety.stopLatch ++ u8 s.run.state.code

/-- SAFETY STOP's own rule (R155). -/
def safetyStopRule (s : State) : Executed :=
  let s1 := s.setStopLatch
  (s1, ⟨.ok, s1.latchData⟩)

/-- SAFETY STOP (R155). -/
def execSafetyStop (p : Port) (s : State) : Step :=
  .next (runCommand s p 0xC4 [] (clearsKey safetyStopRule))

/-- SAFETY CLEAR's own rule (R156). -/
def safetyClearRule (s : State) : Executed :=
  if s.safety.stopN then refuse s .interlock
  else
    let s1 := State.updateBlade { s with safety := { s.safety with stopLatch := false } }
    (s1, ⟨.ok, s1.latchData⟩)

/-- SAFETY CLEAR (R156). -/
def execSafetyClear (p : Port) (s : State) : Step :=
  .next (runCommand s p 0xC5 [] (clearsKey safetyClearRule))

/-! ## The safety limit -/

/-- SAFETY LIMIT's own rule (R157). -/
def safetyLimitRule (watts : Half) (s : State) : Executed :=
  let w := clampNat 100 2000 watts.toNat
  let s1 : State := { s with safety := { s.safety with limit := w } }
  (if w < s1.thermal.grant then s1.cutGrant else s1, ⟨okOr (w != watts.toNat), u16 w⟩)

/-- SAFETY LIMIT (R157). -/
def execSafetyLimit (p : Port) (watts : Half) (s : State) : Step :=
  .next (runCommand s p 0xC6 (halfBytes watts) (clearsKey (safetyLimitRule watts)))

/-! ## The safety lease -/

/-- The time in which the lease count falls by 1 (R158). -/
def leaseTime : Nat := Config.ms 100

/-- The count is loaded with a period, and its 0.1 s timer restarted (R158). -/
def State.loadLease (s : State) (period : Nat) : State :=
  { s with safety := { s.safety with count := period, leaseDue := s.now + leaseTime } }

/-- The lease is LIVE with a period, a locked flag and a loaded count (R159). -/
def State.armLease (s : State) (period : Nat) (locked : Bool) : State :=
  let s1 : State := { s with safety := { s.safety with lease := .live, period := period, locked := locked } }
  (s.gates (s1.loadLease period)).examine

/-- LEASE ARM's own rule (R159). -/
def leaseArmRule (period locked : Byte) (s : State) : Executed :=
  let n := clampNat 5 80 period.toNat
  if 1 < locked.toNat then refuse s .badValue
  else if s.leaseLive && s.safety.locked then refuse s .locked
  else
    let s1 := s.armLease n (decide (locked.toNat = 1))
    (s1, ⟨okOr (n != period.toNat), u8 s1.safety.lease.code ++ u8 s1.safety.count ++ flag s1.safety.locked⟩)

/-- LEASE ARM (R159). -/
def execLeaseArm (p : Port) (period locked : Byte) (s : State) : Step :=
  .next (runCommand s p 0xC0 [period, locked] (clearsKey (leaseArmRule period locked)))

/-- LEASE KEY A's own rule: it sets the key sequence flag (R160). -/
def leaseKeyARule (s : State) : Executed :=
  ({ s with safety := { s.safety with keySequence := true } },
    ⟨.ok, u8 s.safety.lease.code ++ u8 s.safety.count⟩)

/-- LEASE KEY A (R160). -/
def execLeaseKeyA (p : Port) (s : State) : Step := .next (runCommand s p 0xC1 [] leaseKeyARule)

/-- LEASE KEY B's own rule (R161). -/
def leaseKeyBRule (s : State) : Executed :=
  if s.safety.keySequence then
    if s.leaseLive then
      let s1 := s.loadLease s.safety.period
      (s1, ⟨.ok, u8 s1.safety.lease.code ++ u8 s1.safety.count⟩)
    else refuse s .refusedState
  else refuse s .sequence

/-- LEASE KEY B (R161). -/
def execLeaseKeyB (p : Port) (s : State) : Step :=
  .next (runCommand s p 0xC2 [] (clearsKey leaseKeyBRule))

/-- The lease is UNARMED with count 0, and its end is felt by heat, motion and the run (R158, R162). -/
def State.disarmLease (s : State) : State :=
  (s.gates { s with safety := { s.safety with lease := .unarmed, count := 0, locked := false } }).examine

/-- LEASE DISARM's own rule (R162). -/
def leaseDisarmRule (s : State) : Executed :=
  if s.leaseLive && s.safety.locked then refuse s .locked
  else
    let s1 := if s.safety.lease = .unarmed then s else s.disarmLease
    (s1, ⟨.ok, u8 s1.safety.lease.code ++ flag s1.safety.locked⟩)

/-- LEASE DISARM (R162). -/
def execLeaseDisarm (p : Port) (s : State) : Step :=
  .next (runCommand s p 0xC3 [] (clearsKey leaseDisarmRule))

/-- LEASE_TICK: the count of a LIVE lease falls by 1; the tick that brings it to 0 is the lapse (R158; DEDUCED,
log entry 11). -/
def execLeaseTick (s : State) : Step :=
  .next (if s.leaseLive then
      let s1 := s.reach s.safety.leaseDue
      if 2 ≤ s1.safety.count then
        { s1 with safety := { s1.safety with
            count := s1.safety.count - 1, leaseDue := s1.safety.leaseDue + leaseTime } }
      else s1.lapse
    else s)

/-- The lease is LIVE, locked or not as asked, and its next tick brings the count to 0. -/
def State.lapseDue (s : State) (locked : Bool) : Bool :=
  s.leaseLive && decide (s.safety.locked = locked) && decide (s.safety.count ≤ 1)

/-- LEASE_LAPSE: the count of an unlocked lease reaches 0 (R163). -/
def execLeaseLapse (s : State) : Step :=
  .next (if s.lapseDue false then (s.reach s.safety.leaseDue).lapse else s)

/-- LOCKED_LEASE_LAPSE: the count of a locked lease reaches 0 (R164). -/
def execLockedLeaseLapse (s : State) : Step :=
  .next (if s.lapseDue true then (s.reach s.safety.leaseDue).lapse else s)

end Sys2Proof.Machine
end

