-- ==== Sys2Proof/Machine/LogUnit.lean ====
section
/-! DEFINITION. The ingredient log's decision on a settled gross value (R82 to R90). -/

namespace Sys2Proof.Machine

/-- What the log's decision reads beside its own state: the threshold, and the facts of the run that an entry
records (R79, R84, R86). -/
structure LogContext where
  threshold : Nat
  cursor : Nat
  clock : Nat
  temp : Option Int
  hotStep : Bool
deriving DecidableEq, Repr

/-- The current step is ACTIVE and its record has a Heat part with a target of 900 or more (R84). -/
def State.hotStep (s : State) : Bool :=
  (s.activeRecord.bind StepRecord.heat).any fun h => decide (900 ≤ h.target)

/-- The context of a decision in the part. -/
def State.logContext (s : State) : LogContext :=
  { threshold := s.weigh.policy.threshold, cursor := s.run.cursor, clock := s.run.clock, temp := s.thermal.tb,
    hotStep := s.hotStep }

/-- The kind of entry that a settled value makes, if it makes one: a jump from the previous value (R83), or
else a drift from the baseline (R84). -/
def LogRefs.entryKind (r : LogRefs) (c : LogContext) (m : Int) : Option EntryKind :=
  let t := (c.threshold : Int)
  if t ≤ m - r.last then some .added
  else if t ≤ r.last - m then some .removed
  else if t ≤ m - r.baseline then some .driftGain
  else if t ≤ r.baseline - m then some (if c.hotStep then .evaporated else .driftLoss)
  else none

/-- The entry list with the oldest record removed when it is full, and the delta given up (R88). -/
def makeRoom (l : List Entry) : List Entry × Int :=
  match l with
  | oldest :: rest => if Config.logPlaces ≤ l.length then (rest, oldest.delta) else (l, 0)
  | [] => ([], 0)

/-- A record joins the list: the oldest gives way when 96 are held, and the next number rises or the exhausted
flag is set (R87, R88). -/
def IngredientLog.join (log : IngredientLog) (e : Entry) : IngredientLog :=
  { log with
    entries := (makeRoom log.entries).1 ++ [e]
    dropped := log.dropped + (makeRoom log.entries).2
    nextNumber := if log.nextNumber < Config.lastEntryNumber then log.nextNumber + 1 else Config.lastEntryNumber
    exhausted := decide (Config.lastEntryNumber ≤ log.nextNumber) }

/-- The log after a settled value, with the entry made, if one joined the list (R82 to R88). -/
def IngredientLog.take (log : IngredientLog) (c : LogContext) (m : Int) : IngredientLog × Option Entry :=
  match log.refs with
  | none => ({ log with refs := some ⟨m, m, m⟩ }, none)
  | some r =>
    match r.entryKind c m with
    | none => ({ log with refs := some { r with last := m } }, none)
    | some kind =>
      let moved : IngredientLog := { log with refs := some { r with baseline := m, last := m } }
      if log.exhausted then ({ moved with dropped := log.dropped + (m - r.baseline) }, none)
      else
        let e : Entry :=
          { number := log.nextNumber, step := c.cursor, kind := kind, delta := m - r.baseline, gross := m,
            time := c.clock, temp := c.temp }
        (moved.join e, some e)

/-- A settled gross value reaches the log, which takes it while it is open and sends LOG_ENTRY for an entry
that joined the list (R80, R90, R91). -/
def State.logSettled (s : State) (m : Int) : State :=
  if s.log.isOpen then
    let taken := s.log.take s.logContext m
    let s1 : State := { s with log := taken.1 }
    match taken.2 with
    | some e => s1.send .logEntry (some e.step) (some (.mass e.delta))
    | none => s1
  else s

end Sys2Proof.Machine
end

