-- ==== Sys2Proof/Machine/Weighing.lean ====
section
/-! DEFINITION. The weighing unit: its triggers (R54, R55, R196), the completed sample (R51, R52, R58 to
R75), the tare (R67 to R71), and its settings (R57, R76). -/

namespace Sys2Proof.Machine

/-! ## Triggers -/

/-- FREE_CLOCK_TICK: a trigger under FREE, and under AUTO unless the current kind is ANGLE (R55). -/
def execFreeClockTick (s : State) : Step :=
  let s1 := s.reach s.weigh.freeDue
  let s2 : State := { s1 with weigh := { s1.weigh with freeDue := s1.weigh.freeDue + Config.ms 100 } }
  .next (match s2.weigh.policy.trigger with
    | .free => s2.trigger
    | .auto => if s2.weigh.kind = .angle then s2 else s2.trigger
    | .external => s2)

/-- The level of a pin as an event shows it. -/
def Aux.setPin (a : Aux) (i : Nat) (level : Bool) : Aux :=
  { a with lines := a.lines.modify i fun l => { l with pin := level } }

/-- The function of a line. -/
def Aux.functionOf (a : Aux) (i : Nat) : Option LineFunction := a.lines[i]?.map AuxLine.function

/-- SCALE_TRIG_IN_EDGE: a trigger under EXTERNAL, on the line that holds the function (R55, R196). -/
def execScaleTrigInEdge (dt : Nat) (line : Fin 8) (s : State) : Step :=
  let s1 := s.after dt
  let s2 : State := { s1 with aux := s1.aux.setPin line true }
  .next (if s2.aux.functionOf line = some .scaleTrigIn ∧ s2.weigh.policy.trigger = .external then s2.trigger
    else s2)

/-- The current kind is re-evaluated (R54). -/
def State.updateKind (s : State) : State := { s with weigh := { s.weigh with kind := s.kindNow } }

/-- BLADE_STOPPED: 0.5 s have passed without a pulse at commanded level 0 (R54). -/
def execBladeStopped (s : State) : Step :=
  .next (if s.blade.commanded = 0 then
      (s.reach (s.blade.lastPulse.getD 0 + restWait)).updateKind
    else s)

/-! ## The arithmetic of a sample (R51, R59 to R61) -/

/-- A saturated code (R52). -/
def saturated (c : Tri) : Bool := decide (c.toInt = -8388608) || decide (c.toInt = 8388607)

/-- The offset-cancelled value S of a burst (R51). -/
def burstValue (codes : List (Tri × Tri)) : Int :=
  roundDiv (sumInt (codes.map fun c => c.1.toInt - c.2.toInt)) (2 * codes.length)

/-- The gross value (R59). -/
def grossOf (c : Calibration) (value : Int) : Int := roundDiv ((value - c.zero) * c.gain) 65536

/-- The cell temperature of the correction: Tcal where the CELL reading is not VALID (R60). -/
def cellTemp (c : Calibration) : Reading → Int
  | .valid t => t
  | .none | .invalid => c.tcal

/-- The gross less the thermal correction, before it is brought into range (R60, R61). -/
def correctedGross (c : Calibration) (cell : Reading) (gross : Int) : Int :=
  gross - roundDiv (gross * c.tc * (cellTemp c cell - c.tcal)) 10000000

/-- The range flag of a corrected gross (R61). -/
def rangeOf (corrected : Int) : RangeFlag :=
  if corrected < Config.grossMin then .underrange
  else if Config.grossMax < corrected then .overrange else .ok

/-! ## The completed sample (R65) -/

/-- Stages 1 and 2: the range flag, the recent list and the stability history with its settled gross (R61,
R63, R64, R66). -/
def Weigh.join (w : Weigh) (corrected : Int) : Weigh :=
  let g := clampInt Config.grossMin Config.grossMax corrected
  let before := if w.historyKind = w.sampleKind then w.history else []
  let history := pushLast 3 before g
  { w with
    range := rangeOf corrected
    recent := pushLast 3 w.recent g
    history := history
    historyKind := w.sampleKind
    lastKind := some w.sampleKind
    settled := stableMedian w.policy w.sampleKind history }

/-- Stage 3: a settled gross takes a pending tare (R69). -/
def Weigh.takeTare (w : Weigh) : Weigh :=
  match w.settled, w.tareTimer with
  | some g, some _ => { w with tare := g, tareTimer := none, nearArmed := true }
  | _, _ => w

/-- Stage 4: the reported gross (R62). -/
def Weigh.report (w : Weigh) (g : Int) : Weigh := { w with reported := w.settled.getD g }

/-- The threshold of NEAR_TARGET: nine tenths of the target (R74). -/
def nearThreshold (target : Nat) : Nat := target * 9 / 10

/-- Stage 6: the NEAR_TARGET test on the sample's own net (R74). -/
def State.testNear (s : State) (g : Int) : State :=
  match s.activeRecord.bind StepRecord.weigh with
  | some w =>
    let net := limitNet (g - s.weigh.tare)
    if s.weigh.nearArmed && !s.weigh.tarePending && decide ((nearThreshold w.target : Int) ≤ net) then
      State.send { s with weigh := { s.weigh with nearArmed := false } }
        .nearTarget (some s.run.cursor) (some (.mass net))
    else s
  | none => s

/-- Stage 7: the WEIGHT_MET test on the settled net (R73). -/
def State.testWeight (s : State) : State :=
  match s.activeRecord.bind StepRecord.weigh, s.weigh.settledNet with
  | some w, some net =>
    if !s.weigh.tarePending && decide ((w.target : Int) - w.tolerance ≤ net) then s.latch .weightMet else s
  | _, _ => s

/-- Stage 5: a settled gross is handed to the log (R65, R91). -/
def State.serveLog (s : State) : State :=
  match s.weigh.settled with
  | some g => s.logSettled g
  | none => s

/-- A valid sample, processed in the order of R65. -/
def State.validSample (s : State) (codes : List (Tri × Tri)) : State :=
  let corrected := correctedGross s.weigh.cal s.thermal.cell (grossOf s.weigh.cal (burstValue codes))
  let g := clampInt Config.grossMin Config.grossMax corrected
  let s1 : State := { s with weigh := ((s.weigh.join corrected).takeTare).report g }
  (s1.serveLog.testNear g).testWeight

/-- A SATURATED sample (R52). -/
def State.saturatedSample (s : State) : State :=
  { s with weigh := { s.weigh with
      history := [], settled := none, range := .overrange, lastKind := some s.weigh.sampleKind } }

/-- The burst in progress, when it has this many pairs: the moment it ends, 4N ms after it began (R51). -/
def Converter.burstEnd (c : Converter) (pairs : Nat) : Option Nat :=
  match c.work with
  | .burst n began => if n = pairs then some (began + Config.ms (4 * n)) else none
  | .free | .single .. => none

/-- SCALE_BURST_COMPLETE: the burst ends, its sample is processed, and the arbiter chooses again (R51, R52,
R65, R145, R148). -/
def execScaleBurstComplete (codes : List (Tri × Tri)) (s : State) : Step :=
  .next (match s.converter.burstEnd codes.length with
    | some moment =>
      let s1 := s.reach moment
      let s2 : State := { s1 with converter := { s1.converter with work := .free } }
      let s3 := if codes.any fun c => saturated c.1 || saturated c.2 then s2.saturatedSample
        else s2.validSample codes
      s3.arbitrate
    | none => s)

/-! ## Tare -/

/-- TARE's own rule (R67). -/
def tareRule (s : State) : Executed :=
  if s.run.state = .config ∨ s.run.state = .faulted then refuse s .refusedState
  else if s.weigh.tarePending then (s, ⟨.okPending, []⟩)
  else (s.requestTare, ⟨.ok, []⟩)

/-- TARE (R67). -/
def execTare (p : Port) (s : State) : Step := .next (runCommand s p 0x70 [] tareRule)

/-- The tare that is forced from the recent list (R70). -/
def forcedTare (recent : List Int) (tare : Int) : Int :=
  match recent with
  | [a, b, c] => median3 a b c
  | l => l.getLast?.getD tare

/-- The tare is forced (R70). -/
def State.forceTare (s : State) : State :=
  let tare := forcedTare s.weigh.recent s.weigh.tare
  let s1 : State := { s with weigh := { s.weigh with tare := tare, tareTimer := none, nearArmed := true } }
  let s2 := s1.send .tareForced s1.runIndex (some (.mass tare))
  if s2.stepActive then s2.editResult fun r => { r with forcedTare := true } else s2

/-- TARE_FORCED: the tare timer runs out with a tare pending (R70). -/
def execTareForced (s : State) : Step :=
  .next (match s.weigh.tareTimer with
    | some moment => (s.reach moment).forceTare
    | none => s)

/-! ## Settings -/

/-- SET SCALE POLICY's own rule (R76). -/
def setScalePolicyRule (pairs policy : Byte) (still motion threshold : Half) (s : State) : Executed :=
  let n := pairs.toNat
  match Trigger.ofCode policy with
  | some t =>
    if n = 1 ∨ n = 2 ∨ n = 4 ∨ n = 8 then
      let sb := clampNat 5 500 still.toNat
      let mb := clampNat 10 1000 motion.toNat
      let lt := clampNat 20 2000 threshold.toNat
      let clamped := sb != still.toNat || mb != motion.toNat || lt != threshold.toNat
      let new : ScalePolicy := { pairs := n, trigger := t, still := sb, motion := mb, threshold := lt }
      let s1 : State := { s with weigh := { s.weigh with policy := new } }
      (s1.updateKind, ⟨okOr clamped, policyBytes new⟩)
    else refuse s .badValue
  | none => refuse s .badValue

/-- SET SCALE POLICY (R76). -/
def execSetScalePolicy (p : Port) (pairs policy : Byte) (still motion threshold : Half) (s : State) : Step :=
  .next (runCommand s p 0xA7
    (pairs :: policy :: (halfBytes still ++ halfBytes motion ++ halfBytes threshold))
    (inConfig (setScalePolicyRule pairs policy still motion threshold)))

/-- LOAD SCALE CALIBRATION's own rule (R57). -/
def loadScaleCalibrationRule (zero : Tri) (gain tc tcal : Half) (s : State) : Executed :=
  let z := clampInt (-8388607) 8388607 zero.toInt
  let g := clampNat 1 65535 gain.toNat
  let c := clampInt (-1000) 1000 tc.toInt
  let t := clampInt 0 600 tcal.toInt
  let clamped := z != zero.toInt || g != gain.toNat || c != tc.toInt || t != tcal.toInt
  let new : Calibration := { zero := z, gain := g, tc := c, tcal := t }
  ({ s with weigh := { s.weigh with cal := new, history := [], recent := [], settled := none } },
    ⟨okOr clamped, calibrationBytes new⟩)

/-- LOAD SCALE CALIBRATION (R57). -/
def execLoadScaleCalibration (p : Port) (zero : Tri) (gain tc tcal : Half) (s : State) : Step :=
  .next (runCommand s p 0xA8 (triBytes zero ++ halfBytes gain ++ halfBytes tc ++ halfBytes tcal)
    (inConfig (loadScaleCalibrationRule zero gain tc tcal)))

end Sys2Proof.Machine
end

