-- ==== Sys2Proof/Machine/Dispatch.lean ====
section
/-! DEFINITION. One arm for each row of the opcode table, in its order. -/

namespace Sys2Proof.Machine

/-- The meaning of a command or event (section 12.7 lists where each command is legal). -/
def exec (i : Instr) (s : State) : Host.Outcome State Fault Refusal :=
  match i with
  | .selectView p view number => Sys2Proof.Machine.execSelectView p view number s
  | .takeNotice p => Sys2Proof.Machine.execTakeNotice p s
  | .setSubscription p marks => Sys2Proof.Machine.execSetSubscription p marks s
  | .pause p => Sys2Proof.Machine.execPause p s
  | .confirm p step => Sys2Proof.Machine.execConfirm p step s
  | .start p => Sys2Proof.Machine.execStart p s
  | .resume p => Sys2Proof.Machine.execResume p s
  | .skip p => Sys2Proof.Machine.execSkip p s
  | .abort p => Sys2Proof.Machine.execAbort p s
  | .putStep p index record => Sys2Proof.Machine.execPutStep p index record s
  | .deleteStep p index => Sys2Proof.Machine.execDeleteStep p index s
  | .clearProgram p => Sys2Proof.Machine.execClearProgram p s
  | .setHoldPoint p slot index => Sys2Proof.Machine.execSetHoldPoint p slot index s
  | .clearHoldPoint p slot => Sys2Proof.Machine.execClearHoldPoint p slot s
  | .tare p => Sys2Proof.Machine.execTare p s
  | .manualSet p level heatPresent target cap => Sys2Proof.Machine.execManualSet p level heatPresent target cap s
  | .manualStop p => Sys2Proof.Machine.execManualStop p s
  | .setLineLevel p line level pin => Sys2Proof.Machine.execSetLineLevel p line level pin s
  | .enterConfig p => Sys2Proof.Machine.execEnterConfig p s
  | .leaveConfig p => Sys2Proof.Machine.execLeaveConfig p s
  | .setAcceptance p port filter enable code mask => Sys2Proof.Machine.execSetAcceptance p port filter enable code mask s
  | .setService p choice => Sys2Proof.Machine.execSetService p choice s
  | .setBudget p watts => Sys2Proof.Machine.execSetBudget p watts s
  | .setLineFunction p line function pin => Sys2Proof.Machine.execSetLineFunction p line function pin s
  | .setLineFilter p interval => Sys2Proof.Machine.execSetLineFilter p interval s
  | .setScalePolicy p pairs policy still motion threshold => Sys2Proof.Machine.execSetScalePolicy p pairs policy still motion threshold s
  | .loadScaleCalibration p zero gain tc tcal => Sys2Proof.Machine.execLoadScaleCalibration p zero gain tc tcal s
  | .loadHeaterData p rh rating kmains => Sys2Proof.Machine.execLoadHeaterData p rh rating kmains s
  | .loadThermistorTableFirst p half points => Sys2Proof.Machine.execLoadThermistorTableFirst p half points s
  | .loadThermistorTableSecond p half points => Sys2Proof.Machine.execLoadThermistorTableSecond p half points s
  | .warmReset p => Sys2Proof.Machine.execWarmReset p s
  | .leaseArm p period locked => Sys2Proof.Machine.execLeaseArm p period locked s
  | .leaseKeyA p => Sys2Proof.Machine.execLeaseKeyA p s
  | .leaseKeyB p => Sys2Proof.Machine.execLeaseKeyB p s
  | .leaseDisarm p => Sys2Proof.Machine.execLeaseDisarm p s
  | .safetyStop p => Sys2Proof.Machine.execSafetyStop p s
  | .safetyClear p => Sys2Proof.Machine.execSafetyClear p s
  | .safetyLimit p watts => Sys2Proof.Machine.execSafetyLimit p watts s
  | .badFrame p bytes tooLong => Sys2Proof.Machine.execBadFrame p bytes tooLong s
  | .writeAddressPhase dt address => Sys2Proof.Machine.execWriteAddressPhase dt address s
  | .writeEnd dt bytes => Sys2Proof.Machine.execWriteEnd dt bytes s
  | .readAddressPhase dt address pins => Sys2Proof.Machine.execReadAddressPhase dt address pins s
  | .powerOnReset addrsel stopN => Sys2Proof.Machine.execPowerOnReset addrsel stopN s
  | .runClockTick dt => Sys2Proof.Machine.execRunClockTick dt s
  | .activeTimeTick dt => Sys2Proof.Machine.execActiveTimeTick dt s
  | .timeDone => Sys2Proof.Machine.execTimeDone s
  | .overdue => Sys2Proof.Machine.execOverdue s
  | .freeClockTick => Sys2Proof.Machine.execFreeClockTick s
  | .indexPulse dt => Sys2Proof.Machine.execIndexPulse dt s
  | .scaleTrigInEdge dt line => Sys2Proof.Machine.execScaleTrigInEdge dt line s
  | .bladeStopped => Sys2Proof.Machine.execBladeStopped s
  | .scaleBurstComplete codes => Sys2Proof.Machine.execScaleBurstComplete codes s
  | .tareForced => Sys2Proof.Machine.execTareForced s
  | .thermistorTimer => Sys2Proof.Machine.execThermistorTimer s
  | .motorITimer => Sys2Proof.Machine.execMotorITimer s
  | .conversionComplete channel code => Sys2Proof.Machine.execConversionComplete channel code s
  | .mainsZeroCrossing dt => Sys2Proof.Machine.execMainsZeroCrossing dt s
  | .mainsLossTimeout => Sys2Proof.Machine.execMainsLossTimeout s
  | .ventFanRunoutEnd => Sys2Proof.Machine.execVentFanRunoutEnd s
  | .rampStep => Sys2Proof.Machine.execRampStep s
  | .intervalPhaseEnd => Sys2Proof.Machine.execIntervalPhaseEnd s
  | .kneadHalfEnd => Sys2Proof.Machine.execKneadHalfEnd s
  | .inverterRestWaitEnd => Sys2Proof.Machine.execInverterRestWaitEnd s
  | .lidLockSettleEnd => Sys2Proof.Machine.execLidLockSettleEnd s
  | .speedCheck => Sys2Proof.Machine.execSpeedCheck s
  | .speedTimeout => Sys2Proof.Machine.execSpeedTimeout s
  | .stall => Sys2Proof.Machine.execStall s
  | .lineFilterSample heat motion lid => Sys2Proof.Machine.execLineFilterSample heat motion lid s
  | .stopNAsserted dt => Sys2Proof.Machine.execStopNAsserted dt s
  | .leaseTick => Sys2Proof.Machine.execLeaseTick s
  | .leaseLapse => Sys2Proof.Machine.execLeaseLapse s
  | .lockedLeaseLapse => Sys2Proof.Machine.execLockedLeaseLapse s
  | .buzzerPhaseEnd => Sys2Proof.Machine.execBuzzerPhaseEnd s
  | .runLampBlink => Sys2Proof.Machine.execRunLampBlink s
  | .stopNReleased dt => Sys2Proof.Machine.execStopNReleased dt s

end Sys2Proof.Machine
end

