-- ==== Sys2Proof/WellFormed.lean ====
section
/-! DEFINITION. Which terms of `Instr` spell a command or an event that can reach the part. Only operands
that are lists can be wrong in form: every other operand is a bit vector as wide as its field. -/

namespace Sys2Proof

/-- A PUT STEP frame holds a header and a part-presence byte at least (R182 stage 2), and at most the 38
parameter bytes of a frame, the index among them (12.2). -/
def wfRecord (record : List Byte) : Bool := 5 ≤ record.length && record.length ≤ 37

/-- A frame that joined the queue holds 1 to 40 stored bytes (R180). -/
def wfFrameBytes (bytes : List Byte) : Bool := 1 ≤ bytes.length && bytes.length ≤ 40

/-- A burst holds 1, 2, 4 or 8 pairs (R51). -/
def wfBurst (codes : List (Tri × Tri)) : Bool :=
  codes.length == 1 || codes.length == 2 || codes.length == 4 || codes.length == 8

/-- The form of a term of `Instr`. -/
def Instr.wellFormed : Instr → Bool
  | .putStep _ _ record => wfRecord record
  | .loadThermistorTableFirst _ _ points => points.length == 9
  | .loadThermistorTableSecond _ _ points => points.length == 8
  | .badFrame _ bytes _ => wfFrameBytes bytes
  | .scaleBurstComplete codes => wfBurst codes
  | .selectView .. | .takeNotice .. | .setSubscription .. | .pause .. | .confirm .. | .start .. | .resume ..
  | .skip .. | .abort .. | .deleteStep .. | .clearProgram .. | .setHoldPoint .. | .clearHoldPoint ..
  | .tare .. | .manualSet .. | .manualStop .. | .setLineLevel .. | .enterConfig .. | .leaveConfig ..
  | .setAcceptance .. | .setService .. | .setBudget .. | .setLineFunction .. | .setLineFilter ..
  | .setScalePolicy .. | .loadScaleCalibration .. | .loadHeaterData .. | .warmReset .. | .leaseArm ..
  | .leaseKeyA .. | .leaseKeyB .. | .leaseDisarm .. | .safetyStop .. | .safetyClear .. | .safetyLimit ..
  | .writeAddressPhase .. | .writeEnd .. | .readAddressPhase .. | .powerOnReset .. | .runClockTick ..
  | .activeTimeTick .. | .timeDone | .overdue | .freeClockTick | .indexPulse .. | .scaleTrigInEdge ..
  | .bladeStopped | .tareForced | .thermistorTimer | .motorITimer | .conversionComplete ..
  | .mainsZeroCrossing .. | .mainsLossTimeout | .ventFanRunoutEnd | .rampStep | .intervalPhaseEnd
  | .kneadHalfEnd | .inverterRestWaitEnd | .lidLockSettleEnd | .speedCheck | .speedTimeout | .stall
  | .lineFilterSample .. | .stopNAsserted .. | .leaseTick | .leaseLapse | .lockedLeaseLapse
  | .buzzerPhaseEnd | .runLampBlink | .stopNReleased .. => true

end Sys2Proof
end

