-- ==== Sys2Proof/Safety.lean ====
section
/-! DEFINITION. What the manual promises of every state: the properties that the statements about all steps
and all runs are written in. Each is decidable, and cites the sentence of the manual it writes out. -/

namespace Sys2Proof.Machine

/-! ## The step table and the run -/

/-- `x` lies in `lo..hi`. -/
abbrev within (lo hi x : Nat) : Prop := lo ≤ x ∧ x ≤ hi

/-- `x` lies in `lo..hi`. -/
abbrev withinInt (lo hi x : Int) : Prop := lo ≤ x ∧ x ≤ hi

/-- The times of an INTERVAL lie in 1..60 (R4, R9). -/
def Pattern.inRange : Pattern → Bool
  | .interval on off => decide (within 1 60 on) && decide (within 1 60 off)
  | .continuous | .knead => true

/-- Every number of a stored record lies in its range (R2 to R6, R9), and the record is structurally sound
(R8). -/
abbrev StepRecord.inRange (r : StepRecord) : Prop :=
  (∀ l ∈ r.limit, within 1 14400 l) ∧
  (∀ h ∈ r.heat, within 300 1600 h.target ∧ within 50 1500 h.cap ∧ within 10 200 h.band) ∧
  (∀ t ∈ r.stir, within 1 (topLevel t.direction t.pattern) t.level ∧ t.pattern.inRange = true) ∧
  (∀ w ∈ r.weigh, within 10 100000 w.target ∧ w.tolerance ≤ 5000) ∧
  (∀ t ∈ r.time, within 1 14400 t.duration) ∧
  r.sound = true ∧ (r.autoTare = true → r.weigh.isSome = true)

/-- The step table: at most 48 sound records, 48 results (R1), and hold-point slots that are empty or hold
different indices below the length (R16). -/
abbrev Program.Sound (p : Program) : Prop :=
  p.steps.length ≤ 48 ∧ p.results.length = 48 ∧ (∀ r ∈ p.steps, r.inRange) ∧
  (∀ i ∈ p.hold0, i < p.length) ∧ (∀ i ∈ p.hold1, i < p.length) ∧
  (∀ i ∈ p.hold0, ∀ j ∈ p.hold1, i ≠ j)

/-- The run controller's state as a whole: the cursor below the length in a run, and ACTIVE in a run alone
(R22), the hold-cause set non-empty in HELD and nowhere else, with ACK beside any interlock cause (R33), manual
set points in MANUAL alone (R46), the log open in a run alone (R80), IDLE without a program, and READY and
DONE with one (R21). -/
abbrev State.RunSound (s : State) : Prop :=
  s.run.cursor ≤ s.program.length ∧
  (s.run.state.inRun = true → s.run.cursor < s.program.length) ∧
  (s.run.phase = .active → s.run.state.inRun = true) ∧
  (s.run.state = .held ↔ s.run.causes.isEmpty = false) ∧
  (s.run.causes.hasInterlock = true → s.run.causes.ack = true) ∧
  (s.run.state ≠ .manual → s.run.manualLevel = 0 ∧ s.run.manualHeat = none) ∧
  (s.log.isOpen = true ↔ s.run.state.inRun = true) ∧
  (s.run.state = .idle → s.program.length = 0) ∧
  (s.run.state = .ready ∨ s.run.state = .done → 0 < s.program.length)

/-! ## Heater and motor -/

/-- The heater is guarded: the gate fires, and a grant stands, only while heat is enabled (R110, R113,
R115). -/
abbrev State.HeaterGuarded (s : State) : Prop :=
  (s.thermal.gate = true → 0 < s.thermal.grant) ∧ (0 < s.thermal.grant → s.heatEnabled = true)

/-- The bound of R111: the grant never exceeds the active cap, the element rating, the safety limit and the
budget remainder. -/
abbrev State.GrantBounded (s : State) : Prop :=
  s.thermal.grant ≤ (s.thermal.setPoint.map HeatPoint.cap).getD 0 ∧ s.thermal.grant ≤ s.thermal.rating ∧
  s.thermal.grant ≤ s.safety.limit ∧ s.thermal.grant ≤ s.budget.remainder

/-- The bound of R121: the commanded level is above 0 only with the stop latch clear, MOTION_PERMIT and
LID_CLOSED active, the lease LIVE, and the run state RUNNING or MANUAL. -/
abbrev State.MotorGuarded (s : State) : Prop :=
  0 < s.blade.commanded →
    s.safety.stopLatch = false ∧ s.safety.motionPermit.active = true ∧ s.safety.lidClosed.active = true ∧
    s.safety.lease = .live ∧ (s.run.state = .running ∨ s.run.state = .manual)

/-- The ramp timer runs toward a higher level. -/
def Blade.rising (b : Blade) : Bool := b.ramp.any Ramp.up

/-- The blade is driven, at an effective level above 0, and rises only with the inverter DRIVING and motion
enabled (R121, R123, R127). -/
abbrev State.BladeGuarded (s : State) : Prop :=
  0 < s.blade.effective ∨ s.blade.rising = true → s.blade.inverter = .driving ∧ s.motionEnabled = true

/-- What the outputs that follow the state agree on: the heat set point is the one of the run state (R106), the
commanded level the one that set point, pattern and motion enable give (R121), the lid lock and the stall timer
stand with their conditions (R193, R131), and a ramp or a settle runs only with the inverter DRIVING toward a
target not reached (R123, R128). -/
abbrev State.OutputsFollow (s : State) : Prop :=
  s.thermal.setPoint = s.heatPoint ∧ s.blade.commanded = s.commandedLevel ∧
  s.aux.lockEngaged = s.lockCondition ∧ s.blade.stallTimer.isSome = s.blade.stallCondition ∧
  ((s.blade.ramp.isSome = true ∨ s.blade.settle.isSome = true) →
    s.blade.inverter = .driving ∧ s.targetLevel ≠ s.blade.effective)

/-! ## The safety block -/

/-- The safety block: a stop latch set while STOP_N is asserted, and no run and no manual operation under it
(R154); a count of 1 to 80 while the lease is LIVE, and 0 otherwise (R158); disagreement counts below 3
(R151); the safety limit and the filter interval in their ranges (R153, R157). -/
abbrev State.SafetySound (s : State) : Prop :=
  (s.safety.stopN = true → s.safety.stopLatch = true) ∧
  (s.safety.stopLatch = true → s.run.state.halts = false) ∧
  (s.safety.lease = .live → within 1 80 s.safety.count) ∧
  (s.safety.lease ≠ .live → s.safety.count = 0) ∧
  within 5 80 s.safety.period ∧
  s.safety.heatPermit.count ≤ 2 ∧ s.safety.motionPermit.count ≤ 2 ∧ s.safety.lidClosed.count ≤ 2 ∧
  within 100 2000 s.safety.limit ∧ (s.safety.interval = 1 ∨ s.safety.interval = 4 ∨ s.safety.interval = 16)

/-! ## Weighing and the log -/

/-- A mass within the range of a corrected gross (R61). -/
abbrev grossInRange (g : Int) : Prop := withinInt Config.grossMin Config.grossMax g

/-- The weighing unit: at most three masses in each history (R63, R66), every mass it keeps in range (R61,
R71), and a settled gross only from a full history (R64). -/
abbrev Weigh.Sound (w : Weigh) : Prop :=
  w.history.length ≤ 3 ∧ w.recent.length ≤ 3 ∧ (∀ g ∈ w.history, grossInRange g) ∧
  (∀ g ∈ w.recent, grossInRange g) ∧ (∀ g ∈ w.settled, grossInRange g) ∧ grossInRange w.reported ∧
  grossInRange w.tare ∧ (w.settled.isSome = true → w.history.length = 3)

/-- The balance of R89: the baseline is the origin, the dropped sum and the deltas held. -/
abbrev IngredientLog.Balanced (log : IngredientLog) : Prop :=
  (∀ r ∈ log.refs, r.baseline = r.origin + log.dropped + sumInt (log.entries.map Entry.delta)) ∧
  (log.refs = none → log.entries = [] ∧ log.dropped = 0)

/-- At most 96 entries with consecutive numbers, the last of them just below the next entry number, or equal
to it once the exhausted flag is set (R87, R88). -/
abbrev IngredientLog.Numbered (log : IngredientLog) : Prop :=
  log.entries.length ≤ 96 ∧ log.entries.length < log.nextNumber + log.exhausted.toNat ∧
  within 1 65535 log.nextNumber ∧
  (log.exhausted = true → log.nextNumber = 65535) ∧
  log.entries.map Entry.number =
    (List.range log.entries.length).map fun i =>
      log.nextNumber + log.exhausted.toNat - log.entries.length + i

/-! ## Notices and ports -/

/-- A notice may stand before another in a list: its priority is not lower, and kind or step index differ
(R169). -/
abbrev Notice.standsBefore (m n : Notice) : Prop :=
  n.kind.priority ≤ m.kind.priority ∧ ¬ (m.kind = n.kind ∧ m.index = n.index)

/-- The order of R169: at most 12 entries, by priority descending, no two of the same kind and step index. -/
abbrev NoticeList.Ordered (l : NoticeList) : Prop :=
  l.entries.length ≤ 12 ∧ l.entries.Pairwise Notice.standsBefore

/-- Every port's list is in order. -/
abbrev State.NoticesOrdered (s : State) : Prop :=
  s.notices.console.Ordered ∧ s.notices.safety.Ordered ∧ s.notices.link.Ordered ∧ s.notices.service.Ordered

/-- The bound of R179, with the frames of R180: at most 8 frames, a place reserved only when one is free, and
1 to 40 stored bytes in each frame. -/
abbrev Bus.Bounded (b : Bus) : Prop :=
  b.queue.length ≤ 8 ∧ (b.writing.isSome = true → b.queue.length ≤ 7) ∧
  ∀ f ∈ b.queue, 1 ≤ f.bytes.length ∧ f.bytes.length ≤ 40

/-! ## Auxiliary lines -/

/-- Eight lines, each with a function allowed for it (R190), and SCALE_TRIG_IN on one line at most (R191). -/
abbrev Aux.Sound (a : Aux) : Prop :=
  a.lines.length = 8 ∧ (∀ i : Fin 8, ∀ f ∈ a.functionOf i, f ∈ allowedFunctions i) ∧
  ∀ i j : Fin 8, a.functionOf i = some .scaleTrigIn → a.functionOf j = some .scaleTrigIn → i = j

/-! ## The terms in which statements about one command are written -/

/-- The part with the frame of a command taken from its queue. -/
def State.taken (s : State) (i : Instr) : State :=
  match frameOf i with
  | some (p, bytes) => (s.takeFrame { port := p, bytes := bytes, tooLong := false }).getD s
  | none => s

/-- The frame of a command stands to be taken: it is the oldest frame of the queue, or it can be written and
taken at once. -/
def State.offers (s : State) (i : Instr) : Bool :=
  match frameOf i with
  | some (p, bytes) => (s.takeFrame { port := p, bytes := bytes, tooLong := false }).isSome
  | none => false

/-- A command reaches its own rule: its frame stands to be taken and passes stages 1 to 4 of R182. -/
def State.reaches (s : State) (i : Instr) : Bool :=
  match codeAndParams i with
  | some (p, code, _) =>
    i.wellFormed && s.offers i && (s.taken i).bus.accepts p (classOf code) && passesState (s.taken i) code
  | none => false

/-- A command answered: its code, its result and its data stand in the reply slot of its port (R181). -/
def State.answered (s : State) (p : Port) (code : Byte) (result : ResultCode) (data : List Byte) : State :=
  s.recordReply p (some code) { result := result, data := data }

/-- A command refused: nothing but the reply slot of its port changes, and the reply has no data (R181). -/
def State.refused (s : State) (p : Port) (code : Byte) (result : ResultCode) : State :=
  s.answered p code result []

/-- The outcome and end reason of the result at an index (R10). -/
def State.outcomeAt (s : State) (i : Nat) : Option (StepOutcome × Option EndReason) :=
  s.program.results[i]?.map fun r => (r.outcome, r.reason)

/-- A hold-point slot holds an index (R25). -/
def State.marked (s : State) (i : Nat) : Bool :=
  decide (s.program.hold0 = some i) || decide (s.program.hold1 = some i)

/-- What the handover of set points, a brake and a cut can touch in the blade drive: never the pulse timing,
the power samples or their timers (R115, R120, R127). -/
abbrev Blade.handoverFrame (b c : Blade) : Prop :=
  c = { b with
    stir := c.stir, intervalOn := c.intervalOn, patternTimer := c.patternTimer, halfTimer := c.halfTimer
    wantDirection := c.wantDirection, commanded := c.commanded, effective := c.effective
    direction := c.direction, ramp := c.ramp, inverter := c.inverter, settle := c.settle
    stallTimer := c.stallTimer }

/-- What the handover of set points with all that follows it can touch: the set points, the grant, the gate
and the vent fan; the current sample kind; the lid lock and the run lamp (R106, R115, R117, R120, R54, R193,
R195). -/
abbrev State.handoverFrame (s t : State) : Prop :=
  t.thermal = { s.thermal with
    setPoint := t.thermal.setPoint, grant := t.thermal.grant, gate := t.thermal.gate, vent := t.thermal.vent } ∧
  t.weigh = { s.weigh with kind := t.weigh.kind } ∧
  t.aux = { s.aux with
    lockEngaged := t.aux.lockEngaged, lockedAt := t.aux.lockedAt, lamp := t.aux.lamp
    lampDue := t.aux.lampDue } ∧
  s.blade.handoverFrame t.blade

/-- The four notice lists after one notice (R166, R168). -/
def State.noticesAfter (s : State) (kind : NoticeKind) (index : Option Nat) (value : Option NoticeValue) :
    PerPort NoticeList :=
  s.notices.map fun l => l.receive { kind := kind, index := index, count := 1, time := s.run.clock, value := value }

/-- What a change of the speed, the level or the target can touch beside the blade drive: the current sample
kind and the lid lock (R54, R193). -/
abbrev State.bladeFrame (s t : State) : Prop :=
  t = { s with
    now := t.now, blade := t.blade, weigh := { s.weigh with kind := t.weigh.kind }
    aux := { s.aux with lockEngaged := t.aux.lockEngaged, lockedAt := t.aux.lockedAt } }

/-- What the loss of heat enable and motion enable leaves at once, from the state before it: no commanded level,
a braked blade, and no grant (R110, R115, R121, R127). -/
abbrev State.enablesLost (s t : State) : Prop :=
  t.blade.commanded = 0 ∧ (s.motionEnabled = true → t.blade.effective = 0) ∧
  (s.HeaterGuarded → t.thermal.grant = 0 ∧ t.thermal.gate = false)

/-- The run controller enters HALTED or FAULTED with its notice: the hold-cause set empty, the phase BEFORE_ENTRY,
the manual set points cleared and the log closed (R43, R45). -/
abbrev State.stopsInto (s t : State) (r : RunState) (kind : NoticeKind) : Prop :=
  t.run = { s.run with
    state := r, phase := .beforeEntry, causes := {}, manualLevel := 0, manualHeat := none } ∧
  t.log = { s.log with isOpen := false } ∧ t.notices = s.noticesAfter kind s.runIndex none

/-- The run controller and the log take no part, and no notice is sent. -/
abbrev State.runKept (s t : State) : Prop := t.run = s.run ∧ t.log = s.log ∧ t.notices = s.notices

/-- A notice as it is sent: kind, step index and value (R166). -/
abbrev Sent := NoticeKind × Option Nat × Option NoticeValue

/-- The four notice lists after several notices sent in turn (R166). -/
def State.noticesAfterAll (s : State) (l : List Sent) : PerPort NoticeList :=
  (l.foldl (fun u n => { u with notices := u.noticesAfter n.1 n.2.1 n.2.2 }) s).notices

/-- What the entry of the step at the cursor, whose record is `r`, leaves of `s` in `t`, stage by stage (R26): phase,
counts and result (1, 2), the auto-tare of R68 and the near-armed flag of R74 (3), no derate (4, R141), the heat and
stir set points (5), STEP_BEGIN, PROMPT with its buzzer sequence, and the step mark (6, R194, R195), and the
interlocks found, with which the run is HELD under keep-warm heat and without motion (7, R33, R35). The run is
RUNNING when the entry begins, and its lamp is 1. -/
abbrev State.entered (s t : State) (r : StepRecord) : Prop :=
  let here := t.stepInterlocks
  let isHeld := here ≠ {}
  let index := some s.run.cursor
  let prompt : List Sent := (r.prompt.map fun code => (.prompt, index, some (.promptCode code))).toList
  let held : List Sent := if isHeld then [(.held, index, some (.causes { here with ack := true }))] else []
  t.program = { s.program with results := s.program.results.set s.run.cursor .entered } ∧
  t.run = { s.run with
    state := if isHeld then .held else .running, phase := .active, active := 0, countRose := false, met := []
    reached := none, overdueTaken := false, causes := if isHeld then { here with ack := true } else {} } ∧
  t.weigh = { s.weigh with
    kind := t.weigh.kind
    tareTimer := if r.autoTare then some (s.weigh.tareTimer.getD (s.now + 15000000)) else s.weigh.tareTimer
    nearArmed := s.weigh.nearArmed || r.weigh.isSome } ∧
  t.budget = { s.budget with ceiling := none, overCount := 0, underCount := 0 } ∧
  t.thermal = { s.thermal with
    setPoint := r.heat.map fun h => ⟨if isHeld then min h.target 650 else h.target, h.cap, h.band⟩
    grant := if ∀ h ∈ r.heat, h.cap < s.thermal.grant then 0 else s.thermal.grant
    gate := if ∀ h ∈ r.heat, h.cap < s.thermal.grant then false else s.thermal.gate
    vent := t.thermal.vent } ∧
  s.blade.handoverFrame t.blade ∧ t.blade.stir = (if isHeld then .zero else r.stirPoint) ∧
  t.blade.commanded = t.commandedLevel ∧
  t.notices = s.noticesAfterAll ((.stepBegin, index, none) :: (prompt ++ held)) ∧
  t.aux = { s.aux with
    lamp := true, lampDue := if isHeld then s.now + 1500000 else s.aux.lampDue
    lockEngaged := t.aux.lockEngaged, lockedAt := t.aux.lockedAt, stepMark := !s.aux.stepMark
    buzzer := if r.prompt.isSome then some ⟨0, s.now + 600000⟩ else s.aux.buzzer }

/-- What the examination of the interlock conditions leaves in `t` of a part `s` whose notice lists are `notices`. In
a run the interlock causes become those whose conditions hold and concern the step, the others stay, and causes
that begin come with ACK and one HELD notice, and hold the run (R33, R34). Manual operation ends with a HELD notice
that names what ends it (R47). Otherwise nothing changes. -/
abbrev State.reexamined (s t : State) (notices : PerPort NoticeList) : Prop :=
  let sent : State := { s with notices := notices }
  let here := t.stepInterlocks
  let old := s.run.causes
  let begun := (here.lid && !old.lid) || (here.permit && !old.permit) || (here.leaseNotLive && !old.leaseNotLive) ||
    (here.sensor && !old.sensor) || (here.mains && !old.mains)
  let ending := t.manualInterlocks s.run.manualLevel s.run.manualHeat.isSome
  if s.run.state.inRun then
    t.run = { s.run with
      state := if begun then .held else s.run.state
      causes := { old with
        lid := here.lid, permit := here.permit, leaseNotLive := here.leaseNotLive, sensor := here.sensor
        mains := here.mains, ack := old.ack || begun } } ∧
    t.notices = (if begun then sent.noticesAfter .held (some s.run.cursor) (some (.causes t.run.causes)) else notices)
  else if s.run.state = .manual ∧ ending ≠ {} then
    t.run = { s.run with
      state := if s.program.length = 0 then .idle else .ready, manualLevel := 0, manualHeat := none } ∧
    t.notices = sent.noticesAfter .held none (some (.causes { ending with ack := true }))
  else t.run = s.run ∧ t.notices = notices

/-! ## The step record as PUT STEP carries it (12.3) -/

/-- The numbers of a written record, part by part, as the frame carries them (12.3). -/
structure WrittenRecord where
  label : Byte
  flags : Byte
  limit : Half
  heat : Option (Half × Half × Byte)
  stir : Option (Byte × Byte × Byte × Byte)
  weigh : Option (Tri × Half)
  time : Option (Half × Byte)
  prompt : Option Byte
deriving DecidableEq, Repr

/-- The bytes of a written record: header, then the parts that the presence byte marks (12.3, R199). -/
def WrittenRecord.bytes (w : WrittenRecord) : List Byte :=
  [w.label, w.flags] ++ halfBytes w.limit
    ++ u8 (w.heat.isSome.toNat + 2 * w.stir.isSome.toNat + 4 * w.weigh.isSome.toNat + 8 * w.time.isSome.toNat
      + 16 * w.prompt.isSome.toNat)
    ++ ((w.heat.map fun h => halfBytes h.1 ++ halfBytes h.2.1 ++ [h.2.2]).getD [])
    ++ ((w.stir.map fun t => [t.1, t.2.1, t.2.2.1, t.2.2.2]).getD [])
    ++ ((w.weigh.map fun x => triBytes x.1 ++ halfBytes x.2).getD [])
    ++ ((w.time.map fun t => halfBytes t.1 ++ [t.2]).getD []) ++ w.prompt.toList

/-- The structural faults of R8 beside the agreement of parts and presence byte: an unknown end mode, direction,
pattern or start, no condition-bearing part, or FROM_REACHED without a Heat part (R8, R199, 12.3). -/
def WrittenRecord.faulty (w : WrittenRecord) : Bool :=
  decide (2 ≤ w.flags.toNat % 4) ||
  (w.stir.any fun t => decide (2 ≤ t.2.1.toNat % 4) || decide (t.2.1.toNat / 4 % 4 = 3)) ||
  (w.time.any fun t => decide (2 ≤ t.2.toNat) || (decide (t.2.toNat = 1) && w.heat.isNone)) ||
  (w.heat.isNone && w.weigh.isNone && w.time.isNone && w.prompt.isNone)

/-- A number outside a range. -/
def outside (lo hi x : Nat) : Bool := decide (x < lo) || decide (hi < x)

/-- A numeric field of a written record is outside its range, in the list of R9. -/
def WrittenRecord.needsClamp (w : WrittenRecord) : Bool :=
  (w.flags.getLsbD 2 && outside 1 14400 w.limit.toNat) ||
  (w.heat.any fun h => outside 300 1600 h.1.toNat || outside 50 1500 h.2.1.toNat ||
    (decide (h.2.2.toNat ≠ 0) && outside 10 200 h.2.2.toNat)) ||
  (w.stir.any fun t =>
    let slow := decide (t.2.1.toNat % 4 = 1) || decide (t.2.1.toNat / 4 % 4 = 2)
    outside 1 (if slow then 4 else 12) t.1.toNat ||
      (decide (t.2.1.toNat / 4 % 4 = 1) && (outside 1 60 t.2.2.1.toNat || outside 1 60 t.2.2.2.toNat))) ||
  (w.weigh.any fun x => outside 10 100000 x.1.toNat || outside 0 5000 x.2.toNat) ||
  (w.time.any fun t => outside 1 14400 t.1.toNat)

/-- What is stored of a written record without a fault: each number brought to its nearest bound, a written band of 0
as 50, the limit when it is marked present, the auto-tare flag with a Weigh part, and CLAMPED when a number was out
of range (R2 to R7, R9). -/
def WrittenRecord.stored (w : WrittenRecord) : StepRecord :=
  { label := w.label
    endMode := if w.flags.toNat % 4 = 0 then .any else .all
    limit := if w.flags.getLsbD 2 then some (max 1 (min 14400 w.limit.toNat)) else none
    autoTare := w.flags.getLsbD 3 && w.weigh.isSome
    clamped := w.needsClamp
    heat := w.heat.map fun h =>
      { target := max 300 (min 1600 h.1.toNat), cap := max 50 (min 1500 h.2.1.toNat)
        band := if h.2.2.toNat = 0 then 50 else max 10 (min 200 h.2.2.toNat) }
    stir := w.stir.map fun t =>
      let slow := decide (t.2.1.toNat % 4 = 1) || decide (t.2.1.toNat / 4 % 4 = 2)
      { level := max 1 (min (if slow then 4 else 12) t.1.toNat)
        direction := if t.2.1.toNat % 4 = 1 then .reverse else .forward
        pattern := if t.2.1.toNat / 4 % 4 = 1 then
            .interval (max 1 (min 60 t.2.2.1.toNat)) (max 1 (min 60 t.2.2.2.toNat))
          else if t.2.1.toNat / 4 % 4 = 2 then .knead else .continuous }
    weigh := w.weigh.map fun x =>
      { target := max 10 (min 100000 x.1.toNat), tolerance := min 5000 x.2.toNat }
    time := w.time.map fun t =>
      { duration := max 1 (min 14400 t.1.toNat), start := if t.2.toNat = 1 then .fromReached else .fromEntry }
    prompt := w.prompt }

end Sys2Proof.Machine
end

