-- ==== Sys2Proof/Certificates/Slice0/Obligations.lean ====
section
/-! DEFINITION. The statements for the provers. Each names the rule of the manual that it writes out; where it
rests on a choice of the model, it names the log entry. -/

section Statements

open Sys2Proof Sys2Proof.Machine

/-! ## The step, the frames and the promises of every state -/

/-- One step is the effect of the command or event at the front of the queue, on the state with the queue's
rest; with none waiting the part idles (the model's choice, log entry 3). -/
def Obligations.StepRunsTheFrontCommand : Prop :=
  (∀ (i : Instr) (rest : List Instr) (s : State), s.pending = i :: rest →
    step s = exec i { s with pending := rest }) ∧
  ∀ s : State, s.pending = [] → step s = .next s

/-- After a power-on reset, at either level of ADDRSEL and of STOP_N, every promise of Sys2Proof/Safety.lean
holds, and State.reset is that state with both low (the model's choice, log entry 5). -/
def Obligations.PowerOnMeetsEveryPromise : Prop :=
  (∀ addrsel stopN : Bool,
    let s := State.powerOn addrsel stopN
    s.program.Sound ∧ s.RunSound ∧ s.HeaterGuarded ∧ s.GrantBounded ∧ s.MotorGuarded ∧ s.BladeGuarded ∧
      s.OutputsFollow ∧ s.SafetySound ∧ s.weigh.Sound ∧ s.log.Balanced ∧ s.log.Numbered ∧ s.NoticesOrdered ∧
      s.bus.Bounded ∧ s.aux.Sound) ∧
  State.reset = State.powerOn false false

/-- A well-formed command's frame is read back as that command, and fits the 40 stored bytes (12.2, R180,
R182). -/
def Obligations.EncodedFramesDecode : Prop :=
  ∀ (i : Instr) (p : Port) (bytes : List Byte), i.wellFormed = true → frameOf i = some (p, bytes) →
    (∃ pin, decodeFrame p pin bytes = some i) ∧ bytes.length ≤ 40

/-- A frame that spells a command is that command's own frame, byte for byte: no bit of it is dropped (12.2,
R182). -/
def Obligations.DecodedFramesReencode : Prop :=
  ∀ (p : Port) (pin : Bool) (bytes : List Byte) (i : Instr), bytes.length ≤ 40 →
    decodeFrame p pin bytes = some i → frameOf i = some (p, bytes) ∧ i.wellFormed = true

/-! ## Promises that every step keeps, from every state that has them -/

/-- Every step keeps the step table within 48 sound records, every number of them in its range (R2 to R6, R8, R9), and
48 results with its hold-point slots (R1, R16), the inbound queue within its 8 places (R179), and the auxiliary lines
within their functions (R190, R191). -/
def Obligations.StepKeepsTablesAndQueue : Prop :=
  ∀ s t : State, step s = .next t →
    (s.program.Sound → t.program.Sound) ∧ (s.bus.Bounded → t.bus.Bounded) ∧ (s.aux.Sound → t.aux.Sound)

/-- Every step keeps the run controller sound: cursor, phase, hold-cause set, manual set points and open log
agree with the run state (R21, R22, R33, R46, R80). -/
def Obligations.StepKeepsRunSound : Prop :=
  ∀ s t : State, step s = .next t → s.RunSound → t.RunSound

/-- Every step keeps the heater guarded and the grant bounded: the gate fires only while heat is enabled, and
the grant never exceeds the active cap, the element rating, the safety limit and the budget remainder (R110,
R111, R113, R115). The model's choices it rests on: log entry 18. -/
def Obligations.StepKeepsHeaterGuarded : Prop :=
  ∀ s t : State, step s = .next t → s.HeaterGuarded ∧ s.GrantBounded → t.HeaterGuarded ∧ t.GrantBounded

/-- Every step keeps the motor guarded: a commanded level above 0, and a driven blade, need the stop latch
clear, MOTION_PERMIT and LID_CLOSED active and the lease LIVE (R121, R127). -/
def Obligations.StepKeepsMotorGuarded : Prop :=
  ∀ s t : State, step s = .next t →
    (s.MotorGuarded → t.MotorGuarded) ∧ (s.BladeGuarded → t.BladeGuarded)

/-- Every step keeps the safety block sound: no run under the stop latch, the latch set while STOP_N is
asserted, and a lease that is LIVE exactly while its count runs (R151, R153, R154, R157, R158). -/
def Obligations.StepKeepsSafetySound : Prop :=
  ∀ s t : State, step s = .next t → s.SafetySound → t.SafetySound

/-- Every step keeps every mass of the weighing unit in its range (R61 to R64, R66, R71), and the ingredient log
balanced and consecutively numbered (R87 to R89). -/
def Obligations.StepKeepsMassesAndLog : Prop :=
  ∀ s t : State, step s = .next t →
    (s.weigh.Sound → t.weigh.Sound) ∧ (s.log.Balanced → t.log.Balanced) ∧ (s.log.Numbered → t.log.Numbered)

/-- Every step keeps every port's notice list in its order, within 12 entries and without doubles (R169 to R171).
What one offer does to a list: nothing without a subscription (R168); a notice of the kind and step index of an
entry raises that entry's count, up to 255, and replaces its value, in its place (R170); another is inserted
behind the last entry of its priority or higher, in a full list only in place of a last entry of lower priority,
and LOST is set when a full list discards or displaces (R169, R171, R172). An offer empties no list, and the
attention output of Console, Safety and Link is asserted while the port's list holds an entry (R174). The
priorities are those of R166. -/
def Obligations.StepKeepsNoticesOrdered : Prop :=
  (∀ s t : State, step s = .next t → s.NoticesOrdered → t.NoticesOrdered) ∧
  (∀ (l : NoticeList) (n : Notice),
    let known := ∃ m ∈ l.entries, m.kind = n.kind ∧ m.index = n.index
    (l.subscription.getLsbD n.kind.code = false → l.receive n = l) ∧
    (l.subscription.getLsbD n.kind.code = true →
      (∀ before m after, l.entries = before ++ m :: after → m.kind = n.kind → m.index = n.index →
        (∀ x ∈ before ++ after, ¬ (x.kind = n.kind ∧ x.index = n.index)) →
        l.receive n = { l with
          entries := before ++ { m with count := min 255 (m.count + 1), value := n.value } :: after }) ∧
      (¬ known → l.entries.length < 12 →
        ∀ before after, l.entries = before ++ after → (∀ m ∈ before, n.kind.priority ≤ m.kind.priority) →
          (∀ m ∈ after.head?, m.kind.priority < n.kind.priority) →
          l.receive n = { l with entries := before ++ n :: after }) ∧
      (¬ known → 12 ≤ l.entries.length → ∀ last ∈ l.entries.getLast?,
        (n.kind.priority ≤ last.kind.priority → l.receive n = { l with lost := true }) ∧
        (last.kind.priority < n.kind.priority →
          ∀ before after, l.entries.dropLast = before ++ after →
            (∀ m ∈ before, n.kind.priority ≤ m.kind.priority) →
            (∀ m ∈ after.head?, m.kind.priority < n.kind.priority) →
            l.receive n = { l with entries := before ++ n :: after, lost := true })) ∧
      (l.receive n).entries ≠ [])) ∧
  (∀ s : State,
    (s.attention .console = true ↔ s.notices.console.entries ≠ []) ∧
    (s.attention .safety = true ↔ s.notices.safety.entries ≠ []) ∧
    (s.attention .link = true ↔ s.notices.link.entries ≠ []) ∧ s.attention .service = false) ∧
  ∀ kind : NoticeKind, kind.priority =
    match kind with
    | .halted | .fault => 7
    | .prompt | .sensor => 6
    | .held | .permitChange | .stall => 5
    | .runDone | .elementHot | .overshoot => 4
    | .nearTarget | .tareForced | .budgetDerate => 3
    | .stepBegin | .stepEnd => 2
    | .logEntry => 1

/-- Every step keeps the outputs with the state they follow: the heat set point (R106), the commanded level
(R121), the lid lock (R193), the stall timer (R131), and the ramp and settle timers (R123, R128). -/
def Obligations.StepKeepsOutputsFollowing : Prop :=
  ∀ s t : State, step s = .next t → s.RunSound → s.OutputsFollow → t.OutputsFollow

/-! ## Promises of the whole part -/

/-- FAULTED is left by a warm reset or a power-on reset alone (R45, R50); HALTED is left by ABORT or a reset, or
for FAULTED by the lapse of a LIVE locked lease (R44, R45). -/
def Obligations.StoppedStatesAreLeftByTheirCommands : Prop :=
  (∀ (i : Instr) (s t : State), exec i s = .next t → s.run.state = .faulted →
    (∀ p, i ≠ .warmReset p) → (∀ a n, i ≠ .powerOnReset a n) → t.run.state = .faulted) ∧
  ∀ (i : Instr) (s t : State), exec i s = .next t → s.run.state = .halted → (∀ p, i ≠ .abort p) →
    (∀ p, i ≠ .warmReset p) → (∀ a n, i ≠ .powerOnReset a n) →
    t.run.state = .halted ∨ (t.run.state = .faulted ∧ s.leaseLive = true ∧ s.safety.locked = true)

/-- A SAFETY-class command from another port than Safety is refused with REFUSED_CLASS, whatever that port's
filters hold; from the Safety port it reaches its rule, whatever that port's filters hold (R183). The model's
choices it rests on: log entry 6. -/
def Obligations.SafetyClassNeedsTheSafetyPort : Prop :=
  ∀ (i : Instr) (p : Port) (code : Byte) (params : List Byte) (s : State),
    codeAndParams i = some (p, code, params) → classOf code = 12 → i.wellFormed = true →
    s.offers i = true →
    (p ≠ .safety → exec i s = .next ((s.taken i).refused p code .refusedClass)) ∧
    (p = .safety → (s.taken i).run.state ≠ .faulted → s.reaches i = true)

/-- What stages 1 to 4 of R182 refuse changes the reply slot of its port and nothing else: a frame that spells
no command (its code is its second byte, R181), a class that is not accepted (R183), and in FAULTED every
command but those of classes 0 and 1 and WARM RESET (R45). A frame that cannot be taken has no effect (log
entry 6). -/
def Obligations.RefusedFramesChangeTheReplyAlone : Prop :=
  (∀ (p : Port) (bytes : List Byte) (tooLong : Bool) (s s1 : State),
    Frame.isBad ⟨p, bytes, tooLong⟩ = true → s.takeFrame ⟨p, bytes, tooLong⟩ = some s1 →
    exec (.badFrame p bytes tooLong) s = .next (s1.recordReply p bytes[1]? ⟨.badFrame, []⟩)) ∧
  ∀ (i : Instr) (p : Port) (code : Byte) (params : List Byte) (s : State),
    codeAndParams i = some (p, code, params) → i.wellFormed = true →
    (s.offers i = false → exec i s = .next s) ∧
    (s.offers i = true → (s.taken i).bus.accepts p (classOf code) = false →
      exec i s = .next ((s.taken i).refused p code .refusedClass)) ∧
    (s.offers i = true → (s.taken i).bus.accepts p (classOf code) = true →
      (s.taken i).run.state = .faulted → classOf code ≠ 0 → classOf code ≠ 1 → code ≠ 0xB0 →
      exec i s = .next ((s.taken i).refused p code .refusedState))

/-! ## Commands of the VIEW and NOTICE classes -/

/-- SELECT VIEW stores the view with the number it carries in the sender's selection (R185). TAKE NOTICE removes
the head of the sender's list and clears LOST when the list becomes empty (R172, R173); SET SUBSCRIPTION
replaces the sender's subscription (R168). No other port's selection or list changes. The model's choices it
rests on: log entry 6. -/
def Obligations.ViewAndNoticeCommandsActForTheSender : Prop :=
  (∀ (p : Port) (view : Byte) (number : Half) (s : State), s.reaches (.selectView p view number) = true →
    let i := Instr.selectView p view number
    let s1 := s.taken i
    (View.ofCode view = none → exec i s = .next (s1.refused p 0x00 .badValue)) ∧
    ∀ v, View.ofCode view = some v →
      if (v = .step ∨ v = .result) ∧ 48 ≤ number.toNat then exec i s = .next (s1.refused p 0x00 .badIndex)
      else
        let n := if v = .step ∨ v = .result ∨ v = .log then number.toNat else 0
        exec i s = .next
          (State.answered { s1 with bus := { s1.bus with views := s1.bus.views.set p ⟨v, n⟩ } } p 0x00 .ok
            (u8 v.code ++ u16 n))) ∧
  (∀ (p : Port) (s : State), s.reaches (.takeNotice p) = true →
    let s1 := s.taken (.takeNotice p)
    ((s1.notices.get p).entries = [] → exec (.takeNotice p) s = .next (s1.answered p 0x10 .ok [])) ∧
    ∀ head rest, (s1.notices.get p).entries = head :: rest →
      let lost := if rest = [] then false else (s1.notices.get p).lost
      exec (.takeNotice p) s = .next
        (State.answered
          { s1 with notices := s1.notices.set p { s1.notices.get p with entries := rest, lost := lost } }
          p 0x10 .ok (noticeBytes head ++ u8 rest.length ++ flag lost))) ∧
  ∀ (p : Port) (marks : Half) (s : State), s.reaches (.setSubscription p marks) = true →
    let s1 := s.taken (.setSubscription p marks)
    exec (.setSubscription p marks) s = .next
      (State.answered
        { s1 with notices := s1.notices.set p { s1.notices.get p with subscription := marks } }
        p 0x11 .ok (halfBytes marks))

/-! ## Commands of a run -/

/-- PAUSE adds PAUSE in RUNNING or HELD, with its HELD notice when it was absent; the run is HELD with commanded
level 0 and the keep-warm set point (R33, R35, R36). The model's choices it rests on: log entry 6. -/
def Obligations.PauseHoldsTheRun : Prop :=
  ∀ (p : Port) (s : State), s.reaches (.pause p) = true →
    let s1 := s.taken (.pause p)
    (s1.run.state.inRun = false → exec (.pause p) s = .next (s1.refused p 0x20 .refusedState)) ∧
    (s1.run.state.inRun = true → s1.run.causes.pause = true →
      exec (.pause p) s = .next (s1.answered p 0x20 .ok s1.runData)) ∧
    (s1.run.state.inRun = true → s1.run.causes.pause = false →
      ∃ t, exec (.pause p) s = .next t ∧
        t.run = { s1.run with state := .held, causes := { s1.run.causes with pause := true } } ∧
        t.notices = s1.noticesAfter .held (some s1.run.cursor) (some (.causes t.run.causes)) ∧
        t.bus = (s1.answered p 0x20 .ok t.runData).bus ∧
        (s1.run.state = .held → t = { s1 with run := t.run, notices := t.notices, bus := t.bus }) ∧
        (s1.run.state = .running → t.blade.commanded = 0 ∧ t.blade.stir = .zero ∧
          t.thermal.setPoint = (s1.activeRecord.bind StepRecord.heat).map fun h =>
            ⟨min h.target 650, h.cap, h.band⟩) ∧
        s1.handoverFrame t ∧
        t = { s1 with
          run := t.run, thermal := t.thermal, weigh := t.weigh, blade := t.blade, aux := t.aux
          notices := t.notices, bus := t.bus })

/-- The end decision: under ANY a step ends with the reason of the condition latched first; under ALL, once the
condition of every condition-bearing part has latched, with the reason of the one latched last (R7, R30). CONFIRM
latches CONFIRMED for the ACTIVE current step that has a Prompt part, and in RUNNING ends the step when the end
decision says so; it answers STALE or BAD_VALUE otherwise (R27, R30, R31, R40). The model's choices it rests on:
log entries 6, 13, 19 and 25. -/
def Obligations.ConfirmLatchesConfirmed : Prop :=
  (∀ (r : StepRecord) (met : List Condition),
    let reason : Condition → EndReason := fun c => match c with
      | .tempReached => .temp
      | .weightMet => .weight
      | .timeDone => .time
      | .confirmed => .confirm
    let complete := (r.heat.isSome = true → .tempReached ∈ met) ∧ (r.weigh.isSome = true → .weightMet ∈ met) ∧
      (r.time.isSome = true → .timeDone ∈ met) ∧ (r.prompt.isSome = true → .confirmed ∈ met)
    (r.endMode = .any → r.ends met = met.head?.map reason) ∧
    (r.endMode = .all → complete → r.ends met = met.getLast?.map reason) ∧
    (r.endMode = .all → ¬ complete → r.ends met = none)) ∧
  ∀ (p : Port) (step : Byte) (s : State), s.reaches (.confirm p step) = true →
    let i := Instr.confirm p step
    let s1 := s.taken i
    (¬ (s1.run.state.inRun = true ∧ step.toNat = s1.run.cursor ∧ s1.run.phase = .active) →
      exec i s = .next (s1.refused p 0x30 .stale)) ∧
    ∀ r, s1.record = some r → s1.run.state.inRun = true → step.toNat = s1.run.cursor →
      s1.run.phase = .active →
      (r.prompt = none → exec i s = .next (s1.refused p 0x30 .badValue)) ∧
      (r.prompt.isSome = true →
        let all := s1.run.met ++ [.confirmed]
        let met := if .confirmed ∈ s1.run.met then s1.run.met else all
        (s1.run.state = .held ∨ .confirmed ∈ s1.run.met ∨ r.ends all = none →
          exec i s = .next
            (State.answered { s1 with run := { s1.run with met := met } } p 0x30 .ok
              (u8 s1.run.cursor ++ metBytes met))) ∧
        ∀ reason, s1.run.state = .running → .confirmed ∉ s1.run.met → r.ends all = some reason →
          s1.run.cursor < s1.program.results.length →
          ∃ t, exec i s = .next t ∧ t.outcomeAt s1.run.cursor = some (.completed, some reason) ∧
            t.run.cursor = s1.run.cursor + 1 ∧ t.program.steps = s1.program.steps ∧
            t.bus = (s1.answered p 0x30 .ok (u8 t.run.cursor ++ metBytes t.run.met)).bus ∧
            t.now = s1.now ∧ t.converter = s1.converter ∧ t.safety = s1.safety ∧ t.pending = s1.pending)

/-- START clears the results, the log and the run clock, opens the log, and performs the arrival at index 0: HELD
at a hold point with its notice (R25, R33), and otherwise the whole entry of step 0, stage by stage, HELD at once
only by an interlock (R24, R25, R26, R68, R74, R79, R141, R194, R195). The model's choices it rests on: log
entry 6. -/
def Obligations.StartBeginsARun : Prop :=
  ∀ (p : Port) (s : State), s.reaches (.start p) = true →
    let s1 := s.taken (.start p)
    (s1.run.state ≠ .ready → s1.run.state ≠ .done →
      exec (.start p) s = .next (s1.refused p 0x40 .refusedState)) ∧
    (s1.run.state = .ready ∨ s1.run.state = .done →
      let begun : State := { s1 with
        program := { s1.program with results := List.replicate 48 .cleared }
        run := { s1.run with clock := 0, cursor := 0 } }
      (s1.safety.stopLatch = true → exec (.start p) s = .next (s1.refused p 0x40 .interlock)) ∧
      (s1.safety.stopLatch = false → 0 < s1.program.length →
        ∃ t, exec (.start p) s = .next t ∧ t.run.clock = 0 ∧ t.run.cursor = 0 ∧ t.run.met = [] ∧
          t.log = { IngredientLog.cleared with isOpen := true } ∧
          t.program = { s1.program with results := t.program.results } ∧
          t.bus = (s1.answered p 0x40 .ok t.runData).bus ∧
          t.weigh = { s1.weigh with
            kind := t.weigh.kind, tareTimer := t.weigh.tareTimer, nearArmed := t.weigh.nearArmed } ∧
          (s1.marked 0 = true →
            t.run.state = .held ∧ t.run.phase = .beforeEntry ∧ t.run.causes = { holdPoint := true } ∧
            t.program.results = List.replicate 48 .cleared ∧
            t.notices = begun.noticesAfter .held (some 0) (some (.causes { holdPoint := true })) ∧
            t.budget = s1.budget ∧ t.blade.stir = .zero ∧ t.thermal.setPoint = none ∧ s1.handoverFrame t) ∧
          (s1.marked 0 = false → (∀ r ∈ s1.program.steps[0]?, begun.entered t r) ∧
            t.run.phase = .active ∧ t.run.active = 0 ∧
            t.run.state = (if t.stepInterlocks.isEmpty then .running else .held) ∧
            t.run.causes = t.stepInterlocks.withAck ∧
            t.program.results = (List.replicate 48 .cleared).set 0 .entered) ∧
          t = { s1 with
            program := t.program, run := t.run, weigh := t.weigh, log := t.log, thermal := t.thermal
            blade := t.blade, budget := t.budget, notices := t.notices, bus := t.bus, aux := t.aux }))

/-- RESUME in HELD without an interlock cause empties the set and runs on: it enters a step at BEFORE_ENTRY, by the
whole entry, stage by stage (R26, R68, R74, R141, R194, R195), and for an ACTIVE step restores the set points and
makes the end decision (R30, R37). The model's choices it rests on: log entries 6, 9, 13 and 25. -/
def Obligations.ResumeReleasesTheRun : Prop :=
  ∀ (p : Port) (s : State) (r : StepRecord), s.reaches (.resume p) = true →
    let s1 := s.taken (.resume p)
    (s1.run.state ≠ .held → exec (.resume p) s = .next (s1.refused p 0x41 .refusedState)) ∧
    (s1.run.state = .held → s1.run.causes.hasInterlock = true →
      exec (.resume p) s = .next (s1.refused p 0x41 .interlock)) ∧
    (s1.run.state = .held → s1.run.causes.hasInterlock = false → s1.record = some r →
      s1.run.cursor < s1.program.results.length →
      ∃ t, exec (.resume p) s = .next t ∧ t.bus = (s1.answered p 0x41 .ok t.runData).bus ∧
        t.now = s1.now ∧ t.converter = s1.converter ∧ t.safety = s1.safety ∧ t.pending = s1.pending ∧
        (s1.run.phase = .beforeEntry → s1.entered t r ∧ t.log = s1.log ∧
          t.run.phase = .active ∧ t.run.cursor = s1.run.cursor ∧ t.run.active = 0 ∧ t.run.met = [] ∧
          t.outcomeAt s1.run.cursor = some (.active, none) ∧ t.run.causes = t.stepInterlocks.withAck ∧
          t.run.state = (if t.stepInterlocks.isEmpty then .running else .held)) ∧
        (s1.run.phase = .active → r.ends s1.run.met = none →
          t.run = { s1.run with state := .running, causes := {}, countRose := false } ∧
          t.blade.stir = r.stirPoint ∧
          t.thermal.setPoint = (r.heat.map fun h => ⟨h.target, h.cap, h.band⟩) ∧
          t.program = s1.program ∧ t.notices = s1.notices ∧ t.log = s1.log ∧ t.budget = s1.budget ∧
          s1.handoverFrame t) ∧
        (s1.run.phase = .active → ∀ reason, r.ends s1.run.met = some reason →
          t.outcomeAt s1.run.cursor = some (.completed, some reason) ∧
          t.run.cursor = s1.run.cursor + 1))

/-- SKIP marks the current step SKIPPED and raises the cursor; in HELD it holds the run at the next index with
HOLD_POINT, PAUSE and ACK kept, and past the last step the run is DONE (R38, R39). The model's choices it rests
on: log entries 6, 13 and 25. -/
def Obligations.SkipPassesTheStep : Prop :=
  ∀ (p : Port) (s : State), s.reaches (.skip p) = true →
    let s1 := s.taken (.skip p)
    (s1.run.state.inRun = false → exec (.skip p) s = .next (s1.refused p 0x42 .refusedState)) ∧
    (s1.run.state.inRun = true → s1.run.cursor < s1.program.results.length →
      ∃ t, exec (.skip p) s = .next t ∧ t.bus = (s1.answered p 0x42 .ok t.runData).bus ∧
        t.run.cursor = s1.run.cursor + 1 ∧
        (t.outcomeAt s1.run.cursor).map Prod.fst = some .skipped ∧
        (s1.run.phase = .active → t.outcomeAt s1.run.cursor = some (.skipped, none)) ∧
        t.program.steps = s1.program.steps ∧ t.now = s1.now ∧ t.converter = s1.converter ∧
        t.safety = s1.safety ∧ t.pending = s1.pending ∧
        (s1.program.length ≤ s1.run.cursor + 1 →
          t.run.state = .done ∧ t.run.causes = {} ∧ t.log = { s1.log with isOpen := false } ∧
          t.blade.commanded = 0 ∧ t.thermal.setPoint = none) ∧
        (s1.run.cursor + 1 < s1.program.length → s1.run.state = .held →
          t.run = { s1.run with
            cursor := s1.run.cursor + 1, phase := .beforeEntry, met := [], reached := none
            countRose := false, active := 0
            causes := { pause := s1.run.causes.pause, ack := s1.run.causes.ack, holdPoint := true } }) ∧
        (s1.run.cursor + 1 < s1.program.length → s1.run.state = .running → s1.run.causes = {} →
          s1.run.cursor + 1 < s1.program.results.length →
          if s1.marked (s1.run.cursor + 1) then
            t.run.state = .held ∧ t.run.phase = .beforeEntry ∧ t.run.causes = { holdPoint := true }
          else t.run.phase = .active ∧ t.outcomeAt (s1.run.cursor + 1) = some (.active, none)))

/-- ABORT in RUNNING, HELD, HALTED or MANUAL ends what goes on: READY or IDLE with the cursor kept, no heat, no
level, a closed log and an empty set, and ABORTED for a step that was ACTIVE (R41). The model's choices it rests
on: log entry 6. -/
def Obligations.AbortEndsTheRun : Prop :=
  ∀ (p : Port) (s : State), s.reaches (.abort p) = true →
    let s1 := s.taken (.abort p)
    let legal := s1.run.state = .running ∨ s1.run.state = .held ∨ s1.run.state = .halted ∨
      s1.run.state = .manual
    (¬ legal → exec (.abort p) s = .next (s1.refused p 0x43 .refusedState)) ∧
    (legal → s1.run.cursor < s1.program.results.length →
      let wasActive := (s1.run.state.inRun = true ∧ s1.run.phase = .active) ∨
        (s1.run.state = .halted ∧ (s1.outcomeAt s1.run.cursor).map Prod.fst = some .active)
      ∃ t, exec (.abort p) s = .next t ∧ t.bus = (s1.answered p 0x43 .ok t.runData).bus ∧
        t.run = { s1.run with
          state := if s1.program.length = 0 then .idle else .ready, phase := .beforeEntry, causes := {}
          manualLevel := 0, manualHeat := none } ∧
        t.log = { s1.log with isOpen := false } ∧ t.thermal.setPoint = none ∧ t.thermal.grant = 0 ∧
        t.blade.commanded = 0 ∧ t.blade.stir = .zero ∧
        (wasActive → t.outcomeAt s1.run.cursor = some (.aborted, none)) ∧
        (¬ wasActive → t.program = s1.program) ∧
        s1.handoverFrame t ∧
        t = { s1 with
          program := { s1.program with results := t.program.results }, run := t.run, log := t.log
          thermal := t.thermal, weigh := t.weigh, blade := t.blade, aux := t.aux, bus := t.bus })

/-! ## The step table -/

/-- PUT STEP checks state, locked index, index, space and record in this order, then stores the clamped record
or appends it, clears the result at its index, and makes IDLE READY (R8, R9, R12, R13). The record read from the
bytes of a frame: none for a structural fault, and otherwise every field as written, each number brought into its
range, and CLAMPED set when one was outside (R2 to R9); none when presence byte and parts disagree (R199); and the
bytes that show a stored record are read as that record (12.3). The model's choices it rests on: log entries 6 and
30. -/
def Obligations.PutStepStoresTheRecord : Prop :=
  (∀ w : WrittenRecord, readRecord w.bytes = if w.faulty then none else some w.stored) ∧
  (∀ bytes : List Byte, bytes.length < 5 → readRecord bytes = none) ∧
  (∀ (label flags h1 h0 presence : Byte) (parts : List Byte),
    let bit := fun i => (presence.getLsbD i).toNat
    32 ≤ presence.toNat ∨ parts.length ≠ 5 * bit 0 + 4 * bit 1 + 5 * bit 2 + 3 * bit 3 + bit 4 →
    readRecord (label :: flags :: h1 :: h0 :: presence :: parts) = none) ∧
  (∀ r : StepRecord, r.inRange →
    readRecord (recordBytes r) = some { r with clamped := false } ∧
    (recordBytes r)[1]?.map (fun b => b.getLsbD 4) = some r.clamped) ∧
  ∀ (p : Port) (index : Byte) (record : List Byte) (s : State), s.reaches (.putStep p index record) = true →
    let i := Instr.putStep p index record
    let s1 := s.taken i
    let n := index.toNat
    if s1.run.state = .config ∨ s1.run.state = .halted then exec i s = .next (s1.refused p 0x50 .refusedState)
    else if s1.run.state.inRun = true ∧ n ≤ s1.run.cursor then
      exec i s = .next (s1.refused p 0x50 .lockedStep)
    else if s1.program.length < n then exec i s = .next (s1.refused p 0x50 .badIndex)
    else if n = s1.program.length ∧ 48 ≤ s1.program.length then exec i s = .next (s1.refused p 0x50 .full)
    else match readRecord record with
      | none => exec i s = .next (s1.refused p 0x50 .badValue)
      | some r =>
        let steps := if n < s1.program.length then s1.program.steps.set n r else s1.program.steps ++ [r]
        let idle := s1.run.state = .idle
        exec i s = .next
          (State.answered
            { s1 with
              program := { s1.program with steps := steps, results := s1.program.results.set n .cleared }
              run := { s1.run with state := if idle then .ready else s1.run.state }
              aux := { s1.aux with lamp := if idle then false else s1.aux.lamp } }
            p 0x50 (if r.clamped then .okClamped else .ok) (u8 n ++ u8 steps.length))

/-- DELETE STEP removes a record with its result, moves the later ones down, adjusts the hold-point slots and
the cursor, and makes an emptied READY or DONE table IDLE (R13, R14, R19); CLEAR PROGRAM empties the table
(R15). The model's choices it rests on: log entry 6. -/
def Obligations.DeleteAndClearShrinkTheTable : Prop :=
  (∀ (p : Port) (index : Byte) (s : State), s.reaches (.deleteStep p index) = true →
    let i := Instr.deleteStep p index
    let s1 := s.taken i
    let n := index.toNat
    if s1.run.state = .config ∨ s1.run.state = .halted then exec i s = .next (s1.refused p 0x51 .refusedState)
    else if s1.run.state.inRun = true ∧ n ≤ s1.run.cursor then
      exec i s = .next (s1.refused p 0x51 .lockedStep)
    else if s1.program.length ≤ n then exec i s = .next (s1.refused p 0x51 .badIndex)
    else s1.program.length ≤ 48 → s1.program.results.length = 48 →
      ∃ t, exec i s = .next t ∧ t.program.steps = s1.program.steps.eraseIdx n ∧
        (∀ k < n, t.program.results[k]? = s1.program.results[k]?) ∧
        (∀ k, n ≤ k → k + 1 < s1.program.length →
          t.program.results[k]? = s1.program.results[k + 1]?) ∧
        t.program.results[s1.program.length - 1]? = some .cleared ∧
        (∀ k, s1.program.length ≤ k → t.program.results[k]? = s1.program.results[k]?) ∧
        t.program.hold0 = (s1.program.hold0.bind fun h =>
          if h = n then none else some (if n < h then h - 1 else h)) ∧
        t.program.hold1 = (s1.program.hold1.bind fun h =>
          if h = n then none else some (if n < h then h - 1 else h)) ∧
        t.run.cursor = (if s1.run.state.inRun then s1.run.cursor
          else min s1.run.cursor (s1.program.length - 1)) ∧
        t.run.state = (if s1.program.length = 1 ∧ (s1.run.state = .ready ∨ s1.run.state = .done) then .idle
          else s1.run.state) ∧
        t.bus = (s1.answered p 0x51 .ok (u8 (s1.program.length - 1))).bus ∧
        t = { s1 with
          program := t.program, run := { s1.run with state := t.run.state, cursor := t.run.cursor }
          bus := t.bus, aux := { s1.aux with lamp := t.aux.lamp, lampDue := t.aux.lampDue } }) ∧
  ∀ (p : Port) (s : State), s.reaches (.clearProgram p) = true →
    let s1 := s.taken (.clearProgram p)
    let refused := s1.run.state.inRun = true ∨ s1.run.state = .config ∨ s1.run.state = .halted
    (refused → exec (.clearProgram p) s = .next (s1.refused p 0x52 .refusedState)) ∧
    (¬ refused → ∃ t, exec (.clearProgram p) s = .next t ∧
      t.program = { steps := [], results := List.replicate 48 .cleared, hold0 := none, hold1 := none } ∧
      t.run = { s1.run with
        cursor := 0, state := if s1.run.state = .manual then .manual else .idle } ∧
      t.bus = (s1.answered p 0x52 .ok []).bus ∧
      t = { s1 with
        program := t.program, run := t.run, bus := t.bus, aux := { s1.aux with lamp := false } })

/-- The hold-point commands (R17, R18), refused in CONFIG and HALTED (R16). SET HOLD POINT: a slot number other than 0
or 1 is refused with BAD_VALUE, an index at or above the length with BAD_INDEX, an index held by the other slot with
IN_USE, and otherwise the slot takes the index, at or below the cursor too, with both slots in the reply. CLEAR HOLD
POINT: a slot number other than 0 or 1 is refused with BAD_VALUE, and otherwise the slot becomes empty, OK with both
slots in the reply, and the hold-cause set keeps HOLD_POINT. The model's choices it rests on: log entry 6. -/
def Obligations.HoldPointCommandsSetTheSlots : Prop :=
  (∀ (p : Port) (slot index : Byte) (s : State), s.reaches (.setHoldPoint p slot index) = true →
    let i := Instr.setHoldPoint p slot index
    let s1 := s.taken i
    let n := index.toNat
    let other := if slot = 0 then s1.program.hold1 else s1.program.hold0
    if s1.run.state = .config ∨ s1.run.state = .halted then exec i s = .next (s1.refused p 0x60 .refusedState)
    else if slot ≠ 0 ∧ slot ≠ 1 then exec i s = .next (s1.refused p 0x60 .badValue)
    else if s1.program.length ≤ n then exec i s = .next (s1.refused p 0x60 .badIndex)
    else if other = some n then exec i s = .next (s1.refused p 0x60 .inUse)
    else
      let h0 := if slot = 0 then some n else s1.program.hold0
      let h1 := if slot = 0 then s1.program.hold1 else some n
      exec i s = .next
        (State.answered { s1 with program := { s1.program with hold0 := h0, hold1 := h1 } } p 0x60 .ok
          (optIndex h0 ++ optIndex h1))) ∧
  ∀ (p : Port) (slot : Byte) (s : State), s.reaches (.clearHoldPoint p slot) = true →
    let i := Instr.clearHoldPoint p slot
    let s1 := s.taken i
    if s1.run.state = .config ∨ s1.run.state = .halted then exec i s = .next (s1.refused p 0x61 .refusedState)
    else if slot ≠ 0 ∧ slot ≠ 1 then exec i s = .next (s1.refused p 0x61 .badValue)
    else
      let h0 := if slot = 0 then none else s1.program.hold0
      let h1 := if slot = 0 then s1.program.hold1 else none
      exec i s = .next
        (State.answered { s1 with program := { s1.program with hold0 := h0, hold1 := h1 } } p 0x61 .ok
          (optIndex h0 ++ optIndex h1))

/-! ## Weighing -/

/-- TARE makes a tare pending with a 5.0 s timer, or answers OK_PENDING (R67); when the timer runs out the tare
is forced from the recent list: the median of three, the last of one or two, or the present tare of none (R70).
The model's choices it rests on: log entries 4 and 6. -/
def Obligations.TareIsRequestedAndForced : Prop :=
  (∀ (p : Port) (s : State), s.reaches (.tare p) = true →
    let s1 := s.taken (.tare p)
    if s1.run.state = .config then exec (.tare p) s = .next (s1.refused p 0x70 .refusedState)
    else if s1.weigh.tareTimer.isSome then exec (.tare p) s = .next (s1.answered p 0x70 .okPending [])
    else exec (.tare p) s = .next
      (State.answered { s1 with weigh := { s1.weigh with tareTimer := some (s1.now + Config.sec 5) } }
        p 0x70 .ok [])) ∧
  ∀ (s : State) (moment : Nat), s.weigh.tareTimer = some moment →
    ∃ t tare, exec .tareForced s = .next t ∧ t.now = max s.now moment ∧
      t.weigh = { s.weigh with tare := tare, tareTimer := none, nearArmed := true } ∧
      (s.weigh.recent = [] → tare = s.weigh.tare) ∧
      (∀ a b, s.weigh.recent = [a, b] → tare = b) ∧ (∀ a, s.weigh.recent = [a] → tare = a) ∧
      (∀ a b c, s.weigh.recent = [a, b, c] → tare ∈ [a, b, c] ∧ min a (min b c) ≤ tare ∧
        tare ≤ max a (max b c) ∧ a + b + c - min a (min b c) - max a (max b c) = tare) ∧
      t.notices = s.noticesAfter .tareForced s.runIndex (some (.mass tare)) ∧
      (s.stepActive = true → t.program = s.program.editResult s.run.cursor fun r => { r with forcedTare := true }) ∧
      (s.stepActive = false → t.program = s.program) ∧
      t = { s with now := t.now, weigh := t.weigh, notices := t.notices, program := t.program }

/-- What triggers a sample by time and by pin: the free clock under FREE, and under AUTO unless the kind is
ANGLE; an edge on the line that holds SCALE_TRIG_IN under EXTERNAL (R55, R196). A trigger is discarded while a
SCALE request waits or a burst runs, and otherwise asks for the N of the policy and begins at once when the
converter is free, before any other request of that moment (R51, R53, R144, R147). The model's choices it rests
on: log entries 4, 7 and 17. -/
def Obligations.TriggersRequestABurst : Prop :=
  (∀ s : State, ∃ t, exec .freeClockTick s = .next t ∧ t.now = max s.now s.weigh.freeDue ∧
    t.weigh.freeDue = s.weigh.freeDue + Config.ms 100 ∧
    (if (s.weigh.policy.trigger = .free ∨ (s.weigh.policy.trigger = .auto ∧ s.weigh.kind ≠ .angle)) ∧
        s.converter.scale = none ∧ s.converter.work.isBurst = false then
      t.weigh.sampleKind = s.weigh.kind ∧
      (let c := s.converter.recall t.now
      t.converter = if c.work = .free then
          { c with work := .burst s.weigh.policy.pairs t.now, chosenAt := some t.now }
        else { c with scale := some s.weigh.policy.pairs })
    else t.weigh.sampleKind = s.weigh.sampleKind ∧ t.converter = s.converter) ∧
    t = { s with
      now := t.now, converter := t.converter
      weigh := { s.weigh with freeDue := t.weigh.freeDue, sampleKind := t.weigh.sampleKind } }) ∧
  ∀ (dt : Nat) (line : Fin 8) (s : State), ∃ t, exec (.scaleTrigInEdge dt line) s = .next t ∧
    t.now = s.now + 3 * dt ∧
    t.aux = { s.aux with lines := s.aux.lines.modify line fun l => { l with pin := true } } ∧
    (if s.aux.functionOf line = some .scaleTrigIn ∧ s.weigh.policy.trigger = .external ∧
        s.converter.scale = none ∧ s.converter.work.isBurst = false then
      t.weigh.sampleKind = s.weigh.kind ∧
      (let c := s.converter.recall t.now
      t.converter = if c.work = .free then
          { c with work := .burst s.weigh.policy.pairs t.now, chosenAt := some t.now }
        else { c with scale := some s.weigh.policy.pairs })
    else t.weigh = s.weigh ∧ t.converter = s.converter) ∧
    t = { s with
      now := t.now, aux := t.aux, converter := t.converter
      weigh := { s.weigh with sampleKind := t.weigh.sampleKind } }

/-- A completed burst of the pairs in progress gives one sample, processed whole: its masses by R51, R59 to R61,
the histories of its kind by R63 and R66, the settled gross by R64, the pending tare by R69, the reported gross
by R62, and then, in this order, the log on a settled gross, the NEAR_TARGET test and the WEIGHT_MET test of the
current step (R65, R73, R74, R91); a saturated code gives a SATURATED sample instead (R52). The arbiter chooses
again (R145). The model's choices it rests on: log entry 4. -/
def Obligations.BurstGivesOneSample : Prop :=
  ∀ (codes : List (Tri × Tri)) (began : Nat) (s : State), codes ≠ [] →
    s.converter.work = .burst codes.length began →
    ∃ t, exec (.scaleBurstComplete codes) s = .next t ∧ t.now = max s.now (began + 3000 * (4 * codes.length)) ∧
      t.converter = Converter.choose { s.converter with work := .free } t.now ∧
      t.safety = s.safety ∧ t.bus = s.bus ∧ t.pending = s.pending ∧
      if codes.any fun c => saturated c.1 || saturated c.2 then
        t = { s with
          now := t.now, converter := t.converter
          weigh := { s.weigh with
            history := [], settled := none, range := .overrange, lastKind := some s.weigh.sampleKind } }
      else
        let cal := s.weigh.cal
        let value := roundDiv (sumInt (codes.map fun c => c.1.toInt - c.2.toInt)) (2 * codes.length)
        let gross := roundDiv ((value - cal.zero) * cal.gain) 65536
        let cell := match s.thermal.cell with
          | .valid x => x
          | .none | .invalid => cal.tcal
        let corrected := gross - roundDiv (gross * cal.tc * (cell - cal.tcal)) 10000000
        let g := max (-20000) (min 200000 corrected)
        let history := pushLast 3 (if s.weigh.historyKind = s.weigh.sampleKind then s.weigh.history else []) g
        let settled := stableMedian s.weigh.policy s.weigh.sampleKind history
        let weigh : Weigh := { s.weigh with
          range := if corrected < -20000 then .underrange else if 200000 < corrected then .overrange else .ok
          recent := pushLast 3 s.weigh.recent g
          history := history
          historyKind := s.weigh.sampleKind
          lastKind := some s.weigh.sampleKind
          settled := settled
          reported := settled.getD g
          tare := if s.weigh.tareTimer.isSome then settled.getD s.weigh.tare else s.weigh.tare
          tareTimer := if settled.isSome then none else s.weigh.tareTimer
          nearArmed := s.weigh.nearArmed || (settled.isSome && s.weigh.tareTimer.isSome) }
        let sampled : State := { s with
          now := max s.now (began + 3000 * (4 * codes.length))
          converter := { s.converter with work := .free }, weigh := weigh }
        let logged := match settled with
          | some m => sampled.logSettled m
          | none => sampled
        t = ((logged.testNear g).testWeight).arbitrate ∧
        (s.run.state.inRun = false → s.log.isOpen = false →
          t = { s with now := t.now, converter := t.converter, weigh := weigh }) ∧
        t.weigh = { weigh with
          kind := t.weigh.kind, tareTimer := t.weigh.tareTimer, nearArmed := t.weigh.nearArmed } ∧
        (settled = none → t.log = { s.log with isOpen := t.log.isOpen }) ∧
        ∀ m ∈ settled, t.log = { (s.logSettled m).log with isOpen := t.log.isOpen }

/-- A settled gross value at the log: while the log is closed it changes nothing (R80); the first defines the
references (R82); one within the threshold of the previous value and of the baseline only replaces the previous
value (R85); a jump from the previous value (R83) or a drift from the baseline (R84) makes an entry, which joins
the list in the place of the oldest where 96 are held, and is noticed (R86 to R88, R90), or, once the numbers are
exhausted, goes into the dropped sum (R87). The references move with every entry (R85). -/
def Obligations.SettledValuesMakeTheLog : Prop :=
  ∀ (s : State) (m : Int),
    (s.log.isOpen = false → s.logSettled m = s) ∧
    (s.log.isOpen = true → s.log.refs = none →
      s.logSettled m = { s with log := { s.log with refs := some ⟨m, m, m⟩ } }) ∧
    ∀ r : LogRefs, s.log.isOpen = true → s.log.refs = some r →
      let x : Int := s.weigh.policy.threshold
      let jump := x ≤ m - r.last ∨ x ≤ r.last - m
      let drift := x ≤ m - r.baseline ∨ x ≤ r.baseline - m
      let moved := some { r with baseline := m, last := m }
      let hot := (s.activeRecord.bind StepRecord.heat).any fun h => decide (900 ≤ h.target)
      (¬ jump → ¬ drift →
        s.logSettled m = { s with log := { s.log with refs := some { r with last := m } } }) ∧
      (0 < x → jump ∨ drift →
        (s.log.exhausted = true →
          s.logSettled m = { s with log := { s.log with
            refs := moved, dropped := s.log.dropped + (m - r.baseline) } }) ∧
        (s.log.exhausted = false →
          let kind : EntryKind := if x ≤ m - r.last then .added else if x ≤ r.last - m then .removed
            else if r.baseline < m then .driftGain else if hot then .evaporated else .driftLoss
          let e : Entry :=
            { number := s.log.nextNumber, step := s.run.cursor, kind := kind, delta := m - r.baseline
              gross := m, time := s.run.clock, temp := s.thermal.tb }
          let full := 96 ≤ s.log.entries.length
          s.logSettled m = { s with
            notices := s.noticesAfter .logEntry (some s.run.cursor) (some (.mass (m - r.baseline)))
            log := { s.log with
              refs := moved
              entries := (if full then s.log.entries.tail else s.log.entries) ++ [e]
              dropped := s.log.dropped
                + (if full then (s.log.entries.head?.map Entry.delta).getD 0 else 0)
              nextNumber := if s.log.nextNumber < 65535 then s.log.nextNumber + 1 else 65535
              exhausted := decide (65535 ≤ s.log.nextNumber) } }))

/-- The tests of a sample while a step with a Weigh part is ACTIVE: NEAR_TARGET once at nine tenths of the
target, and never with a tare pending (R74); WEIGHT_MET at a settled net of target less tolerance or more,
without a tare pending (R73), whose end decision may end the step with its net mass at exit and the overshoot
mark (R27, R30, R31, R75). The model's choices it rests on: log entries 13, 19 and 25. -/
def Obligations.WeighStepWatchesItsTarget : Prop :=
  ∀ (s : State) (r : StepRecord) (w : WeighPart), s.activeRecord = some r → r.weigh = some w →
    (∀ g : Int,
      let net := min (g - s.weigh.tare) 200000
      s.testNear g =
        (if s.weigh.nearArmed = true ∧ s.weigh.tareTimer = none ∧ ((w.target * 9 / 10 : Nat) : Int) ≤ net then
          { s with
            weigh := { s.weigh with nearArmed := false }
            notices := s.noticesAfter .nearTarget (some s.run.cursor) (some (.mass net)) }
        else s)) ∧
    (s.weigh.settled = none ∨ s.weigh.tareTimer.isSome = true ∨ .weightMet ∈ s.run.met → s.testWeight = s) ∧
    ∀ x ∈ s.weigh.settled,
      let net := min (x - s.weigh.tare) 200000
      let met := s.run.met ++ [.weightMet]
      let t := s.testWeight
      (net < (w.target : Int) - w.tolerance → t = s) ∧
      (s.weigh.tareTimer = none → (w.target : Int) - w.tolerance ≤ net → .weightMet ∉ s.run.met →
        (s.run.state = .held ∨ r.ends met = none → t = { s with run := { s.run with met := met } }) ∧
        ∀ reason ∈ r.ends met, ∀ old ∈ s.program.results[s.run.cursor]?, s.run.state = .running →
          t.run.cursor = s.run.cursor + 1 ∧ t.program.steps = s.program.steps ∧
          t.program.results[s.run.cursor]? = some
            { old with
              outcome := .completed, reason := some reason, netAtExit := some s.weigh.net
              overshoot := old.overshoot || decide ((w.target : Int) + w.tolerance < net) } ∧
          t.now = s.now ∧ t.converter = s.converter ∧ t.safety = s.safety ∧ t.bus = s.bus ∧
          t.pending = s.pending)

/-! ## Manual operation and configuration -/

/-- MANUAL SET in its order of checks: state, heat-present byte, a request of nothing, the stop latch, the
interlocks, and then MANUAL with the clamped set points (R46); MANUAL STOP ends it in READY or IDLE (R47). The
model's choices it rests on: log entries 6 and 32. -/
def Obligations.ManualOperationStartsAndEnds : Prop :=
  (∀ (p : Port) (level heatPresent : Byte) (target cap : Half) (s : State),
    s.reaches (.manualSet p level heatPresent target cap) = true →
    let i := Instr.manualSet p level heatPresent target cap
    let s1 := s.taken i
    let l := min 12 level.toNat
    let x := max 300 (min 1600 target.toNat)
    let c := max 50 (min 1500 cap.toNat)
    let heat := if heatPresent = 1 then some (x, c) else none
    let clamped := l ≠ level.toNat ∨ (heatPresent = 1 ∧ (x ≠ target.toNat ∨ c ≠ cap.toNat))
    let lease := s1.safety.lease = .live
    let interlocked := s1.safety.lidClosed.active = false ∨ s1.thermal.mains = .lost ∨
      (0 < l ∧ (s1.safety.motionPermit.active = false ∨ ¬ lease)) ∨
      (heatPresent = 1 ∧ (s1.safety.heatPermit.active = false ∨ ¬ lease ∨ s1.thermal.base.isValid = false))
    if s1.run.state.inRun = true ∨ s1.run.state = .config ∨ s1.run.state = .halted then
      exec i s = .next (s1.refused p 0x80 .refusedState)
    else if heatPresent ≠ 0 ∧ heatPresent ≠ 1 then exec i s = .next (s1.refused p 0x80 .badValue)
    else if l = 0 ∧ heatPresent = 0 then
      (s1.run.state ≠ .manual → exec i s = .next (s1.answered p 0x80 .ok s1.runData)) ∧
      (s1.run.state = .manual → ∃ t, exec i s = .next t ∧
        t.run = { s1.run with
          state := if s1.program.length = 0 then .idle else .ready, manualLevel := 0, manualHeat := none } ∧
        t.blade.commanded = 0 ∧ t.thermal.setPoint = none ∧ t.thermal.grant = 0 ∧
        t.bus = (s1.answered p 0x80 .ok t.runData).bus ∧ s1.handoverFrame t)
    else if s1.safety.stopLatch = true ∨ interlocked then exec i s = .next (s1.refused p 0x80 .interlock)
    else ∃ t, exec i s = .next t ∧
      t.run = { s1.run with state := .manual, manualLevel := l, manualHeat := heat } ∧
      t.blade.stir = { level := l, direction := some .forward, pattern := .continuous } ∧
      t.blade.commanded = l ∧
      t.thermal.setPoint = (if heatPresent = 1 then some ⟨x, c, 50⟩ else none) ∧
      t.budget = { s1.budget with ceiling := none, overCount := 0, underCount := 0 } ∧
      t.bus = (s1.answered p 0x80 (if clamped then .okClamped else .ok) t.runData).bus ∧
      s1.handoverFrame t ∧
      t = { s1 with
        run := t.run, thermal := t.thermal, weigh := t.weigh, blade := t.blade, budget := t.budget
        bus := t.bus, aux := t.aux }) ∧
  ∀ (p : Port) (s : State), s.reaches (.manualStop p) = true →
    let s1 := s.taken (.manualStop p)
    (s1.run.state ≠ .manual → exec (.manualStop p) s = .next (s1.refused p 0x81 .refusedState)) ∧
    (s1.run.state = .manual → ∃ t, exec (.manualStop p) s = .next t ∧
      t.run = { s1.run with
        state := if s1.program.length = 0 then .idle else .ready, manualLevel := 0, manualHeat := none } ∧
      t.blade.commanded = 0 ∧ t.thermal.setPoint = none ∧ t.thermal.grant = 0 ∧
      t.bus = (s1.answered p 0x81 .ok t.runData).bus ∧ s1.handoverFrame t ∧
      t = { s1 with
        run := t.run, thermal := t.thermal, weigh := t.weigh, blade := t.blade, bus := t.bus, aux := t.aux })

/-- ENTER CONFIG in IDLE, READY and DONE, and LEAVE CONFIG in CONFIG with the staging area emptied; each is
refused elsewhere (R48, R200). The model's choices it rests on: log entry 6. -/
def Obligations.ConfigIsEnteredAndLeft : Prop :=
  (∀ (p : Port) (s : State), s.reaches (.enterConfig p) = true →
    let s1 := s.taken (.enterConfig p)
    let legal := s1.run.state = .idle ∨ s1.run.state = .ready ∨ s1.run.state = .done
    (¬ legal → exec (.enterConfig p) s = .next (s1.refused p 0xA0 .refusedState)) ∧
    (legal → ∃ t, exec (.enterConfig p) s = .next t ∧ t.run = { s1.run with state := .config } ∧
      t.blade.commanded = 0 ∧ t.thermal.setPoint = none ∧ t.thermal.grant = 0 ∧
      t.bus = (s1.answered p 0xA0 .ok t.runData).bus ∧ s1.handoverFrame t ∧
      t = { s1 with
        run := t.run, thermal := t.thermal, weigh := t.weigh, blade := t.blade, bus := t.bus
        aux := t.aux })) ∧
  ∀ (p : Port) (s : State), s.reaches (.leaveConfig p) = true →
    let s1 := s.taken (.leaveConfig p)
    (s1.run.state ≠ .config → exec (.leaveConfig p) s = .next (s1.refused p 0xA1 .refusedState)) ∧
    (s1.run.state = .config → ∃ t, exec (.leaveConfig p) s = .next t ∧
      t.run = { s1.run with state := if s1.program.length = 0 then .idle else .ready } ∧
      t.bus = { (s1.answered p 0xA1 .ok t.runData).bus with staging := none } ∧
      t = { s1 with run := t.run, bus := t.bus, aux := { s1.aux with lamp := false } })

/-- SET BUDGET, SET SCALE POLICY, LOAD SCALE CALIBRATION, LOAD HEATER DATA and SET LINE FILTER in CONFIG store
their values clamped, or refuse a value that names no choice, and touch only what their rules name; in any other
run state they are refused (R48, R57, R76, R116, R138, R153). The model's choices it rests on: log entry 6. -/
def Obligations.SettingsAreStoredInConfig : Prop :=
  (∀ (p : Port) (watts : Half) (s : State), s.reaches (.setBudget p watts) = true →
    let i := Instr.setBudget p watts
    let s1 := s.taken i
    let w := max 600 (min 3600 watts.toNat)
    if s1.run.state = .config then exec i s = .next
      (State.answered { s1 with budget := { s1.budget with watts := w, overCount := 0, underCount := 0 } }
        p 0xA4 (if w = watts.toNat then .ok else .okClamped) (u16 w))
    else exec i s = .next (s1.refused p 0xA4 .refusedState)) ∧
  (∀ (p : Port) (rh rating kmains : Half) (s : State), s.reaches (.loadHeaterData p rh rating kmains) = true →
    let i := Instr.loadHeaterData p rh rating kmains
    let s1 := s.taken i
    let r := max 2000 (min 6000 rh.toNat)
    let e := max 500 (min 2000 rating.toNat)
    let k := max 2000 (min 4000 kmains.toNat)
    if s1.run.state = .config then exec i s = .next
      (State.answered { s1 with thermal := { s1.thermal with rh := r, rating := e, kmains := k } } p 0xA9
        (if r = rh.toNat ∧ e = rating.toNat ∧ k = kmains.toNat then .ok else .okClamped)
        (u16 r ++ u16 e ++ u16 k))
    else exec i s = .next (s1.refused p 0xA9 .refusedState)) ∧
  (∀ (p : Port) (zero : Tri) (gain tc tcal : Half) (s : State),
    s.reaches (.loadScaleCalibration p zero gain tc tcal) = true →
    let i := Instr.loadScaleCalibration p zero gain tc tcal
    let s1 := s.taken i
    let z := max (-8388607) (min 8388607 zero.toInt)
    let g := max 1 gain.toNat
    let c := max (-1000) (min 1000 tc.toInt)
    let x := max 0 (min 600 tcal.toInt)
    if s1.run.state = .config then exec i s = .next
      (State.answered
        { s1 with weigh := { s1.weigh with cal := ⟨z, g, c, x⟩, history := [], recent := [], settled := none } }
        p 0xA8
        (if z = zero.toInt ∧ g = gain.toNat ∧ c = tc.toInt ∧ x = tcal.toInt then .ok else .okClamped)
        (i24 z ++ u16 g ++ i16 c ++ i16 x))
    else exec i s = .next (s1.refused p 0xA8 .refusedState)) ∧
  (∀ (p : Port) (pairs policy : Byte) (still motion threshold : Half) (s : State),
    s.reaches (.setScalePolicy p pairs policy still motion threshold) = true →
    let i := Instr.setScalePolicy p pairs policy still motion threshold
    let s1 := s.taken i
    let n := pairs.toNat
    let sb := max 5 (min 500 still.toNat)
    let mb := max 10 (min 1000 motion.toNat)
    let lt := max 20 (min 2000 threshold.toNat)
    if s1.run.state ≠ .config then exec i s = .next (s1.refused p 0xA7 .refusedState)
    else if (n ≠ 1 ∧ n ≠ 2 ∧ n ≠ 4 ∧ n ≠ 8) ∨ 2 < policy.toNat then
      exec i s = .next (s1.refused p 0xA7 .badValue)
    else ∃ trigger, Trigger.ofCode policy = some trigger ∧
      exec i s = .next
        (State.answered
          { s1 with weigh := { s1.weigh with
              policy := ⟨n, trigger, sb, mb, lt⟩
              kind := kindFor trigger s1.blade.commanded s1.bladeStopped } }
          p 0xA7
          (if sb = still.toNat ∧ mb = motion.toNat ∧ lt = threshold.toNat then .ok else .okClamped)
          (u8 n ++ u8 policy.toNat ++ u16 sb ++ u16 mb ++ u16 lt))) ∧
  ∀ (p : Port) (interval : Byte) (s : State), s.reaches (.setLineFilter p interval) = true →
    let i := Instr.setLineFilter p interval
    let s1 := s.taken i
    let n := interval.toNat
    if s1.run.state ≠ .config then exec i s = .next (s1.refused p 0xA6 .refusedState)
    else if n = 1 ∨ n = 4 ∨ n = 16 then exec i s = .next
      (State.answered
        { s1 with safety := { s1.safety with
            interval := n, samplerDue := s1.now + 3000 * n
            heatPermit := { s1.safety.heatPermit with count := 0 }
            motionPermit := { s1.safety.motionPermit with count := 0 }
            lidClosed := { s1.safety.lidClosed with count := 0 } } }
        p 0xA6 .ok (u8 n))
    else exec i s = .next (s1.refused p 0xA6 .badValue)

/-- The thermistor table is loaded in two frames: FIRST stages its points with its port; SECOND of the same port
loads the seventeen clamped points when their codes strictly rise and their temperatures strictly fall, answers
TABLE_ORDER otherwise, and empties the staging area; without staging of its port it is refused (R97, R200). The
model's choices it rests on: log entry 6. -/
def Obligations.ThermistorTableLoadsInTwoFrames : Prop :=
  (∀ (p : Port) (half : Byte) (points : List RawPoint) (s : State),
    s.reaches (.loadThermistorTableFirst p half points) = true →
    let i := Instr.loadThermistorTableFirst p half points
    let s1 := s.taken i
    if s1.run.state ≠ .config then exec i s = .next (s1.refused p 0xAA .refusedState)
    else if half = 0 then exec i s = .next
      (State.answered { s1 with bus := { s1.bus with staging := some (p, points) } } p 0xAA .ok [])
    else exec i s = .next (s1.refused p 0xAA .badValue)) ∧
  ∀ (p : Port) (half : Byte) (points : List RawPoint) (s : State),
    s.reaches (.loadThermistorTableSecond p half points) = true →
    let i := Instr.loadThermistorTableSecond p half points
    let s1 := s.taken i
    if s1.run.state ≠ .config then exec i s = .next (s1.refused p 0xAA .refusedState)
    else if half ≠ 1 ∨ s1.bus.staging.map Prod.fst ≠ some p then
      exec i s = .next (s1.refused p 0xAA .badValue)
    else ∀ first, s1.bus.staging = some (p, first) →
      let bring := fun q : RawPoint => (min 4095 q.1.toNat, max (-500) (min 4000 q.2.toInt))
      let table := (first ++ points).map bring
      let s2 : State := { s1 with bus := { s1.bus with staging := none } }
      if table.Pairwise fun a b => a.1 < b.1 ∧ b.2 < a.2 then exec i s = .next
        (State.answered { s2 with thermal := { s2.thermal with table := table } } p 0xAA
          (if ∀ q ∈ first ++ points, bring q = (q.1.toNat, q.2.toInt) then .ok else .okClamped) [])
      else exec i s = .next (s2.refused p 0xAA .tableOrder)

/-- SET ACCEPTANCE in CONFIG replaces one filter of the named port, but never so that the sender would lose
class 10 (R184); SET SERVICE sets the Service enable, but DISABLE needs another port that accepts class 10
(R178). The model's choices it rests on: log entries 6, 20 and 33. -/
def Obligations.PortSettingsKeepAWayOutOfConfig : Prop :=
  (∀ (p : Port) (port filter enable code mask : Byte) (s : State),
    s.reaches (.setAcceptance p port filter enable code mask) = true →
    let i := Instr.setAcceptance p port filter enable code mask
    let s1 := s.taken i
    if s1.run.state ≠ .config then exec i s = .next (s1.refused p 0xA2 .refusedState)
    else if 3 < port.toNat ∨ 1 < filter.toNat ∨ 1 < enable.toNat ∨ 15 < code.toNat ∨ 15 < mask.toNat then
      exec i s = .next (s1.refused p 0xA2 .badValue)
    else ∀ q, portOfCode port = some q →
      let new : Filter := ⟨decide (enable = 1), BitVec.ofNat 4 code.toNat, BitVec.ofNat 4 mask.toNat⟩
      let old := s1.bus.filters.get q
      let pair : FilterPair := if filter = 0 then ⟨new, old.b⟩ else ⟨old.a, new⟩
      if q = p ∧ pair.a.passes 10 = false ∧ pair.b.passes 10 = false then
        exec i s = .next (s1.refused p 0xA2 .badValue)
      else exec i s = .next
        (State.answered { s1 with bus := { s1.bus with filters := s1.bus.filters.set q pair } } p 0xA2 .ok
          (filterBytes pair.a ++ filterBytes pair.b))) ∧
  ∀ (p : Port) (choice : Byte) (s : State), s.reaches (.setService p choice) = true →
    let i := Instr.setService p choice
    let s1 := s.taken i
    let other := s1.bus.accepts .console 10 = true ∨ s1.bus.accepts .safety 10 = true ∨
      s1.bus.accepts .link 10 = true
    if s1.run.state ≠ .config then exec i s = .next (s1.refused p 0xA3 .refusedState)
    else if (choice ≠ 0 ∧ choice ≠ 1) ∨ (choice = 0 ∧ ¬ other) then
      exec i s = .next (s1.refused p 0xA3 .badValue)
    else exec i s = .next
      (State.answered { s1 with bus := { s1.bus with serviceEnable := decide (choice = 1) } } p 0xA3 .ok [choice])

/-- SET LINE FUNCTION in CONFIG gives a line an allowed function, with SCALE_TRIG_IN on one line at most, and
keeps its latch (R191); SET LINE LEVEL writes a line's latch in every run state but FAULTED (R192). The reply
shows the line after the command, with the pin level under an input function (R190). The model's choices it
rests on: log entries 6 and 7. -/
def Obligations.LineCommandsSetFunctionAndLatch : Prop :=
  (∀ (p : Port) (line function : Byte) (pin : Bool) (s : State),
    s.reaches (.setLineFunction p line function pin) = true →
    let i := Instr.setLineFunction p line function pin
    let s1 := s.taken i
    let n := line.toNat
    if s1.run.state ≠ .config then exec i s = .next (s1.refused p 0xA5 .refusedState)
    else if 7 < function.toNat then exec i s = .next (s1.refused p 0xA5 .badValue)
    else ∀ f ∈ LineFunction.ofCode function,
      if f ∉ allowedFunctions n then exec i s = .next (s1.refused p 0xA5 .badValue)
      else if f = .scaleTrigIn ∧ ∃ j : Fin 8, j.val ≠ n ∧ s1.aux.functionOf j = some .scaleTrigIn then
        exec i s = .next (s1.refused p 0xA5 .inUse)
      else ∀ l ∈ s1.aux.lines[n]?,
        let l' : AuxLine := { l with function := f, pin := pin }
        exec i s = .next
          (State.answered { s1 with aux := { s1.aux with lines := s1.aux.lines.set n l' } } p 0xA5 .ok
            (u8 n ++ u8 f.code ++ flag l.latch ++ flag (s1.readBack l')))) ∧
  ∀ (p : Port) (line level : Byte) (pin : Bool) (s : State),
    s.reaches (.setLineLevel p line level pin) = true →
    let i := Instr.setLineLevel p line level pin
    let s1 := s.taken i
    let n := line.toNat
    if 7 < n ∨ 1 < level.toNat then exec i s = .next (s1.refused p 0x90 .badValue)
    else ∀ l ∈ s1.aux.lines[n]?,
      let l' : AuxLine := { l with latch := decide (level = 1), pin := pin }
      exec i s = .next
        (State.answered { s1 with aux := { s1.aux with lines := s1.aux.lines.set n l' } } p 0x90 .ok
          (u8 n ++ u8 l.function.code ++ u8 level.toNat ++ flag (s1.readBack l')))

/-! ## Resets -/

/-- A power-on reset leaves every field of every block at its value: those that each chapter's last rule states, with
ADDRSEL and STOP_N as sampled (R20, R50, R56, R76, R77, R93, R95, R116, R118, R135, R142, R149, R153, R165, R168,
R176, R183, R189, R197, R200), and the model's own moments, pins and kinds (log entry 28). That the model's own
queue of waiting commands stays is log entry 3. -/
def Obligations.PowerOnResetStartsThePart : Prop :=
  ∀ (addrsel stopN : Bool) (s : State), ∃ t, exec (.powerOnReset addrsel stopN) s = .next t ∧
    t.now = 0 ∧ t.pending = s.pending ∧
    t.program = { steps := [], results := List.replicate 48 .cleared, hold0 := none, hold1 := none } ∧
    t.run = { state := .idle, cursor := 0, phase := .beforeEntry, clock := 0, active := 0, countRose := false
              met := [], reached := none, overdueTaken := false, causes := {}, manualLevel := 0
              manualHeat := none } ∧
    t.weigh = { cal := ⟨0, 3048, 0, 250⟩, policy := ⟨4, .auto, 20, 60, 50⟩, kind := .motion
                sampleKind := .motion, lastKind := none, historyKind := .motion, history := [], recent := []
                reported := 0, range := .ok, settled := none, tare := 0, tareTimer := none, nearArmed := false
                freeDue := 300000 } ∧
    t.log = { isOpen := false, refs := none, entries := [], nextNumber := 1, exhausted := false, dropped := 0 } ∧
    t.thermal = { table := [(128, 3200), (256, 2400), (384, 1900), (512, 1600), (768, 1270), (1024, 1060),
                    (1280, 910), (1536, 790), (1792, 690), (2048, 600), (2304, 520), (2560, 430), (2816, 330),
                    (3072, 220), (3328, 90), (3584, -60), (3840, -250)]
                  rh := 3527, rating := 1500, kmains := 3000, base := .none, element := .none, cell := .none
                  baseHistory := [], hot := false, mains := .lost, lastCrossing := none, lastPeriod := none
                  volts := none, lossTimer := none, setPoint := none, cycle := none, grant := 0, duty := 0
                  gate := false, vent := .off, timerDue := 300000 } ∧
    t.thermal.tb = none ∧
    t.blade = { stir := { level := 0, direction := none, pattern := .continuous }, intervalOn := false
                patternTimer := none, halfTimer := none, wantDirection := none, commanded := 0, effective := 0
                direction := .forward, ramp := none, inverter := .off, settle := none, lastPulse := none
                lastPeriod := none, actual := 0, roseAt := none, checkDue := 30000, stallTimer := none
                power := 0, powerSum := 0, powerCount := 0, pmot := 0, motorDue := 150000 } ∧
    t.budget = { watts := 2000, remainder := 1960, overCount := 0, underCount := 0, ceiling := none, peak := 0 } ∧
    t.converter = { scale := none, mains := false, mainsLive := false, base := false, element := false
                    cell := false, motorI := false, work := .free, chosenAt := none } ∧
    t.safety = { interval := 4, samplerDue := 12000, heatPermit := ⟨false, 0⟩, motionPermit := ⟨false, 0⟩
                 lidClosed := ⟨false, 0⟩, stopN := stopN, stopLatch := stopN, limit := 1500, lease := .unarmed
                 period := 5, locked := false, count := 0, leaseDue := 0, keySequence := false } ∧
    t.notices = { console := ⟨0xFFFF, [], false⟩, safety := ⟨0x3460, [], false⟩, link := ⟨0x007B, [], false⟩
                  service := ⟨0x0000, [], false⟩ } ∧
    t.bus = { highBase := addrsel, serviceEnable := false, queue := [], writing := none, acknowledged := false
              dataAnswers := [], slots := .all ⟨none, none, []⟩, views := .all ⟨.status, 0⟩
              filters := { console := ⟨⟨true, 0b0000, 0b0111⟩, ⟨true, 0b1000, 0b0011⟩⟩
                           safety := ⟨⟨true, 0b0000, 0b0001⟩, ⟨false, 0b0000, 0b0000⟩⟩
                           link := ⟨⟨true, 0b0000, 0b0011⟩, ⟨false, 0b0000, 0b0000⟩⟩
                           service := ⟨⟨true, 0b0000, 0b1111⟩, ⟨false, 0b0000, 0b0000⟩⟩ }
              staging := none, snapshot := none } ∧
    t.aux = { lines := List.replicate 8 { function := .gpIn, latch := false, pin := false }, lockEngaged := true
              lockedAt := 0, buzzer := none, stepMark := false, lamp := false, lampDue := 0 }

/-- A warm reset gives every block its warm-reset values and keeps the rest: the table, the settings, the
subscriptions, the filters, the filtered lines, the mains state and the pulse timing; it discards the frames
behind it and answers in the sender's emptied slot (R20, R50, R77, R93, R118, R135, R142, R150, R165, R176,
R188, R197). The model's choices it rests on: log entries 6, 16 and 35. -/
def Obligations.WarmResetKeepsTheSettings : Prop :=
  ∀ (p : Port) (s : State), s.reaches (.warmReset p) = true →
    let s1 := s.taken (.warmReset p)
    let rest : RunState := if s1.program.length = 0 then .idle else .ready
    let lost := s1.thermal.mains = .lost
    let atRest := s1.blade.lastPulse.all fun l => decide (l + 1500000 ≤ s1.now)
    ∃ t, exec (.warmReset p) s = .next t ∧
      t.program = { s1.program with results := List.replicate 48 .cleared } ∧
      t.run = { Run.reset with state := rest } ∧ t.log = .cleared ∧ t.converter = .reset ∧
      t.weigh = { s1.weigh with
        kind := t.weigh.kind, lastKind := none, history := [], recent := [], reported := 0, range := .ok
        settled := none, tare := 0, tareTimer := none, nearArmed := false } ∧
      t.thermal = { s1.thermal with
        base := .none, element := .none, cell := .none, baseHistory := [], lastCrossing := none
        setPoint := none, cycle := none, grant := 0, duty := 0, gate := false
        vent := if s1.thermal.vent = .on then .runout (s1.now + 90000000) else s1.thermal.vent } ∧
      t.blade = { s1.blade with
        stir := .zero, intervalOn := false, patternTimer := none, halfTimer := none, wantDirection := none
        commanded := 0, effective := 0, ramp := none, settle := none, stallTimer := none, powerSum := 0
        powerCount := 0, pmot := 0, inverter := if lost then .off else if atRest then .driving else .braking } ∧
      t.budget = { s1.budget with
        remainder := s1.budget.watts - 40, overCount := 0, underCount := 0, ceiling := none, peak := 0 } ∧
      t.safety = { s1.safety with
        stopLatch := s1.safety.stopN, limit := 1500, lease := .unarmed, period := 5, locked := false
        count := 0, keySequence := false } ∧
      t.notices = s1.notices.map (fun l => { l with entries := [], lost := false }) ∧
      t.bus = { s1.bus with
        queue := [], views := .all .status, staging := none
        slots := (PerPort.all ReplySlot.empty).set p ⟨some 0xB0, some .ok, u8 rest.code⟩ } ∧
      t.aux = { s1.aux with
        buzzer := none, lamp := false, lockEngaged := true
        lockedAt := if s1.aux.lockEngaged then s1.aux.lockedAt else s1.now } ∧
      t.now = s1.now ∧ t.pending = s1.pending

/-! ## The safety block -/

/-- LEASE ARM loads the count and makes the lease LIVE, unless it is LIVE and locked or the locked byte names no
choice (R159); LEASE DISARM takes an unlocked lease to UNARMED and with it heat and motion, and holds an ACTIVE
step that needs them (R162). Either clears the key sequence flag (R160). The model's choices it rests on: log
entries 6 and 18. -/
def Obligations.LeaseIsArmedAndDisarmed : Prop :=
  (∀ (p : Port) (period locked : Byte) (s : State), s.reaches (.leaseArm p period locked) = true →
    let i := Instr.leaseArm p period locked
    let s1 := s.taken i
    let k : State := { s1 with safety := { s1.safety with keySequence := false } }
    let n := max 5 (min 80 period.toNat)
    if 1 < locked.toNat then exec i s = .next (k.refused p 0xC0 .badValue)
    else if s1.safety.lease = .live ∧ s1.safety.locked = true then
      exec i s = .next (k.refused p 0xC0 .locked)
    else ∃ t, exec i s = .next t ∧
      t.safety = { s1.safety with
        lease := .live, period := n, locked := decide (locked = 1), count := n, leaseDue := s1.now + 300000
        keySequence := false } ∧
      t.bus = (s1.answered p 0xC0 (if n = period.toNat then .ok else .okClamped)
        (u8 1 ++ u8 n ++ u8 locked.toNat)).bus ∧
      (s1.run.state.inRun = true → t.run.causes.leaseNotLive = false) ∧
      (s1.run.state.inRun = false → s1.run.state ≠ .manual → s1.runKept t ∧ t.thermal = s1.thermal) ∧
      s1.handoverFrame t ∧
      t = { s1 with
        run := t.run, thermal := t.thermal, weigh := t.weigh, blade := t.blade, safety := t.safety
        notices := t.notices, bus := t.bus, aux := t.aux }) ∧
  ∀ (p : Port) (s : State), s.reaches (.leaseDisarm p) = true →
    let i := Instr.leaseDisarm p
    let s1 := s.taken i
    let k : State := { s1 with safety := { s1.safety with keySequence := false } }
    if s1.safety.lease = .live ∧ s1.safety.locked = true then
      exec i s = .next (k.refused p 0xC3 .locked)
    else if s1.safety.lease = .unarmed then
      exec i s = .next (k.answered p 0xC3 .ok (u8 0 ++ flag s1.safety.locked))
    else ∃ t, exec i s = .next t ∧
      t.safety = { s1.safety with lease := .unarmed, count := 0, locked := false, keySequence := false } ∧
      t.bus = (s1.answered p 0xC3 .ok (u8 0 ++ u8 0)).bus ∧ s1.enablesLost t ∧
      (s1.stepNeedsHeat = true ∨ s1.stepNeedsMotion = true → s1.RunSound →
        t.run.state = .held ∧ t.run.causes.leaseNotLive = true ∧ t.run.causes.ack = true) ∧
      (s1.run.state.inRun = false → s1.run.state ≠ .manual → s1.runKept t) ∧
      s1.handoverFrame t ∧
      t = { s1 with
        run := t.run, thermal := t.thermal, weigh := t.weigh, blade := t.blade, safety := t.safety
        notices := t.notices, bus := t.bus, aux := t.aux }

/-- KEY A sets the key sequence flag (R160). KEY B with the flag set refreshes a LIVE lease with its period, is
refused with REFUSED_STATE when the lease is not LIVE, and without the flag is answered SEQUENCE; it always
clears the flag (R160, R161). The model's choices it rests on: log entry 6. -/
def Obligations.KeyPairRefreshesTheLease : Prop :=
  (∀ (p : Port) (s : State), s.reaches (.leaseKeyA p) = true →
    let s1 := s.taken (.leaseKeyA p)
    exec (.leaseKeyA p) s = .next
      (State.answered { s1 with safety := { s1.safety with keySequence := true } } p 0xC1 .ok
        (u8 s1.safety.lease.code ++ u8 s1.safety.count))) ∧
  ∀ (p : Port) (s : State), s.reaches (.leaseKeyB p) = true →
    let s1 := s.taken (.leaseKeyB p)
    let k : State := { s1 with safety := { s1.safety with keySequence := false } }
    if s1.safety.keySequence = false then exec (.leaseKeyB p) s = .next (k.refused p 0xC2 .sequence)
    else if s1.safety.lease ≠ .live then exec (.leaseKeyB p) s = .next (k.refused p 0xC2 .refusedState)
    else exec (.leaseKeyB p) s = .next
      (State.answered
        { k with safety := { k.safety with count := s1.safety.period, leaseDue := s1.now + 300000 } }
        p 0xC2 .ok (u8 1 ++ u8 s1.safety.period))

/-- STOP_N, when it is asserted, and SAFETY STOP set the stop latch: from CLEAR it ends heat and motion, and
makes RUNNING, HELD and MANUAL HALTED; a latch that is set stays so without further effect (R43, R154, R155).
STOP_N's release leaves the latch (R154). The model's choices it rests on: log entries 4, 6 and 18. -/
def Obligations.StopLatchHaltsThePart : Prop :=
  (∀ (dt : Nat) (s : State),
    let s1 : State := { s with now := s.now + 3 * dt }
    (s.safety.stopLatch = true →
      exec (.stopNAsserted dt) s = .next { s1 with safety := { s1.safety with stopN := true } }) ∧
    (s.safety.stopLatch = false → ∃ t, exec (.stopNAsserted dt) s = .next t ∧
      t.safety = { s.safety with stopN := true, stopLatch := true } ∧
      s1.enablesLost t ∧ s1.handoverFrame t ∧
      (if s.run.state = .running ∨ s.run.state = .held ∨ s.run.state = .manual then
        s1.stopsInto t .halted .halted else s1.runKept t) ∧
      t = { s1 with
        run := t.run, log := t.log, thermal := t.thermal, weigh := t.weigh, blade := t.blade
        safety := t.safety, notices := t.notices, aux := t.aux })) ∧
  (∀ (dt : Nat) (s : State), exec (.stopNReleased dt) s = .next
    { s with now := s.now + 3 * dt, safety := { s.safety with stopN := false } }) ∧
  ∀ (p : Port) (s : State), s.reaches (.safetyStop p) = true →
    let s1 := s.taken (.safetyStop p)
    (s1.safety.stopLatch = true → exec (.safetyStop p) s = .next
      (State.answered { s1 with safety := { s1.safety with keySequence := false } } p 0xC4 .ok
        (u8 1 ++ u8 s1.run.state.code))) ∧
    (s1.safety.stopLatch = false → ∃ t, exec (.safetyStop p) s = .next t ∧
      t.safety = { s1.safety with stopLatch := true, keySequence := false } ∧
      s1.enablesLost t ∧ s1.handoverFrame t ∧
      (if s1.run.state = .running ∨ s1.run.state = .held ∨ s1.run.state = .manual then
        s1.stopsInto t .halted .halted else s1.runKept t) ∧
      t.bus = (s1.answered p 0xC4 .ok (u8 1 ++ u8 t.run.state.code)).bus ∧
      t = { s1 with
        run := t.run, log := t.log, thermal := t.thermal, weigh := t.weigh, blade := t.blade
        safety := t.safety, notices := t.notices, bus := t.bus, aux := t.aux })

/-- SAFETY CLEAR clears the stop latch when STOP_N is not asserted, without leaving the run state (R156); SAFETY
LIMIT stores the limit clamped, and one below the grant cuts the grant and with it the gate (R115, R117, R157).
Either clears the key sequence flag (R160). The model's choices it rests on: log entries 6 and 18. -/
def Obligations.LatchIsClearedAndLimitIsSet : Prop :=
  (∀ (p : Port) (s : State), s.reaches (.safetyClear p) = true →
    let s1 := s.taken (.safetyClear p)
    (s1.safety.stopN = true → exec (.safetyClear p) s = .next
      (State.refused { s1 with safety := { s1.safety with keySequence := false } } p 0xC5 .interlock)) ∧
    (s1.safety.stopN = false → ∃ t, exec (.safetyClear p) s = .next t ∧
      t.safety = { s1.safety with stopLatch := false, keySequence := false } ∧
      t.bus = (s1.answered p 0xC5 .ok (u8 0 ++ u8 s1.run.state.code)).bus ∧
      (s1.run.state ≠ .running → s1.run.state ≠ .manual → t.blade.commanded = 0) ∧
      t.blade = { s1.blade with
        commanded := t.blade.commanded, ramp := t.blade.ramp, settle := t.blade.settle
        stallTimer := t.blade.stallTimer } ∧
      t = { s1 with
        safety := t.safety, bus := t.bus, blade := t.blade, weigh := { s1.weigh with kind := t.weigh.kind }
        aux := { s1.aux with lockEngaged := t.aux.lockEngaged, lockedAt := t.aux.lockedAt } })) ∧
  ∀ (p : Port) (watts : Half) (s : State), s.reaches (.safetyLimit p watts) = true →
    let s1 := s.taken (.safetyLimit p watts)
    let w := max 100 (min 2000 watts.toNat)
    let thermal : Thermal := if w < s1.thermal.grant then
        { s1.thermal with
          grant := 0, gate := false
          vent := if s1.thermal.vent = .on then .runout (s1.now + 90000000) else s1.thermal.vent }
      else s1.thermal
    exec (.safetyLimit p watts) s = .next
      (State.answered
        { s1 with
          thermal := thermal, safety := { s1.safety with limit := w, keySequence := false } }
        p 0xC6 (if w = watts.toNat then .ok else .okClamped) (u16 w))

/-- A LIVE lease counts down; the tick that brings the count to 0 is the lapse (log entry 11): LAPSED, heat and
motion lost, and HALTED or a HALTED notice for an unlocked lease, FAULTED with its notice for a locked one (R43,
R45, R158, R163, R164). The model's choices it rests on: log entries 4 and 18. -/
def Obligations.LeaseCountsDownAndLapses : Prop :=
  (∀ s : State, s.safety.lease ≠ .live → exec .leaseTick s = .next s) ∧
  (∀ s : State, s.safety.lease = .live → 2 ≤ s.safety.count →
    exec .leaseLapse s = .next s ∧ exec .lockedLeaseLapse s = .next s ∧
    exec .leaseTick s = .next
      { s with
        now := max s.now s.safety.leaseDue
        safety := { s.safety with
          count := s.safety.count - 1, leaseDue := s.safety.leaseDue + 300000 } }) ∧
  ∀ s : State, s.safety.lease = .live → s.safety.count ≤ 1 →
    let i := if s.safety.locked then Instr.lockedLeaseLapse else Instr.leaseLapse
    let s1 : State := { s with now := max s.now s.safety.leaseDue }
    exec .leaseTick s = exec i s ∧
    ∃ t, exec i s = .next t ∧
      t.safety = { s.safety with lease := .lapsed, count := 0, keySequence := false } ∧
      s1.enablesLost t ∧ s1.handoverFrame t ∧
      (if s.safety.locked then s1.stopsInto t .faulted .fault
        else if s.run.state = .running ∨ s.run.state = .held ∨ s.run.state = .manual then
          s1.stopsInto t .halted .halted
        else t.run = s.run ∧ t.log = s.log ∧ t.notices = s1.noticesAfter .halted none none) ∧
      t = { s1 with
        run := t.run, log := t.log, thermal := t.thermal, weigh := t.weigh, blade := t.blade
        safety := t.safety, notices := t.notices, aux := t.aux }

/-- The sampler gives each of the three lines its sample: agreement clears the count, and the third disagreement
in a row turns the filtered level (R151). A level that becomes INACTIVE takes heat, motion or both; a single change
sends PERMIT_CHANGE, with the cursor in a run, and then the interlock causes of the run, or the end of manual
operation, follow the lines (R33, R34, R47, R152); after any change the interlock causes of a run are those whose
conditions hold. The interlock conditions are those of R34 for a step and of R46 for manual set points. The model's
choices it rests on: log entries 4, 10, 18 and 19. -/
def Obligations.LineSamplesAreFiltered : Prop :=
  (∀ s : State, (s.stepActive = false → s.stepInterlocks = {}) ∧
    ∀ r : StepRecord, s.record = some r → s.stepActive = true →
      let needs := r.heat.isSome || r.stir.isSome
      s.stepInterlocks =
        { lid := !s.safety.lidClosed.active
          permit := (r.heat.isSome && !s.safety.heatPermit.active) ||
            (r.stir.isSome && !s.safety.motionPermit.active)
          leaseNotLive := needs && decide (s.safety.lease ≠ .live)
          sensor := r.heat.isSome && !s.thermal.base.isValid
          mains := decide (s.thermal.mains = .lost) }) ∧
  (∀ (level : Nat) (heat : Bool) (s : State), s.manualInterlocks level heat =
    { lid := !s.safety.lidClosed.active
      permit := (decide (0 < level) && !s.safety.motionPermit.active) || (heat && !s.safety.heatPermit.active)
      leaseNotLive := (decide (0 < level) || heat) && decide (s.safety.lease ≠ .live)
      sensor := heat && !s.thermal.base.isValid
      mains := decide (s.thermal.mains = .lost) }) ∧
  ∀ (heat motion lid : Bool) (s : State),
    let next := fun (f : Filtered) (level : Bool) =>
      if level = f.active then Filtered.mk f.active 0
      else if f.count < 2 then Filtered.mk f.active (f.count + 1) else Filtered.mk level 0
    let h := next s.safety.heatPermit heat
    let m := next s.safety.motionPermit motion
    let l := next s.safety.lidClosed lid
    let safety : Safety := { s.safety with
      samplerDue := s.safety.samplerDue + 3000 * s.safety.interval, heatPermit := h, motionPermit := m
      lidClosed := l }
    let heatKept := h.active = s.safety.heatPermit.active
    let motionKept := m.active = s.safety.motionPermit.active
    let lidKept := l.active = s.safety.lidClosed.active
    ∃ t, exec (.lineFilterSample heat motion lid) s = .next t ∧ t.now = max s.now s.safety.samplerDue ∧
      t.safety = safety ∧
      (heatKept → motionKept → lidKept → t = { s with now := t.now, safety := safety }) ∧
      ((¬ heatKept ∧ h.active = false) ∨ (¬ lidKept ∧ l.active = false) → s.HeaterGuarded →
        t.thermal.grant = 0 ∧ t.thermal.gate = false) ∧
      ((¬ motionKept ∧ m.active = false) ∨ (¬ lidKept ∧ l.active = false) → t.blade.commanded = 0) ∧
      (¬ lidKept → l.active = false → s.stepActive = true → s.RunSound →
        t.run.state = .held ∧ t.run.causes.lid = true ∧ t.run.causes.ack = true) ∧
      (¬ heatKept → motionKept → lidKept →
        s.reexamined t (s.noticesAfter .permitChange s.runIndex (some (.lineChange .heatPermit h.active)))) ∧
      (heatKept → ¬ motionKept → lidKept →
        s.reexamined t (s.noticesAfter .permitChange s.runIndex (some (.lineChange .motionPermit m.active)))) ∧
      (heatKept → motionKept → ¬ lidKept →
        s.reexamined t (s.noticesAfter .permitChange s.runIndex (some (.lineChange .lidClosed l.active)))) ∧
      (s.run.state.inRun = true → ¬ (heatKept ∧ motionKept ∧ lidKept) →
        t.run.causes.interlocks = t.stepInterlocks ∧
        t.run = { s.run with
          state := t.run.state
          causes := { s.run.causes with
            lid := t.run.causes.lid, permit := t.run.causes.permit
            leaseNotLive := t.run.causes.leaseNotLive, sensor := t.run.causes.sensor
            mains := t.run.causes.mains, ack := t.run.causes.ack } }) ∧
      (s.run.state.inRun = false → s.run.state ≠ .manual → t.run = s.run) ∧
      s.handoverFrame t ∧
      t = { s with
        now := t.now, run := t.run, thermal := t.thermal, weigh := t.weigh, blade := t.blade
        safety := t.safety, notices := t.notices, aux := t.aux }

/-! ## The bus -/

/-- The address phase of a write to an enabled address reserves a place while the queue holds fewer than 8
frames, and is not acknowledged otherwise (R177, R179); its first 40 data bytes are acknowledged and stored, and
none after them; at the end of the write a frame of its stored bytes, marked too long when there were more, joins
the queue and makes its slot PENDING, or a write without bytes releases the place (R180, R181). An address
phase under a reserved place, and a write's end without one, have no effect (log entry 12). The model's choices
it rests on: log entry 4. -/
def Obligations.WritesJoinTheQueue : Prop :=
  (∀ (dt : Nat) (address : BitVec 7) (s : State),
    let s1 : State := { s with now := s.now + 3 * dt }
    let nak : State := { s1 with bus := { s1.bus with acknowledged := false } }
    (s.bus.writing.isSome = true → exec (.writeAddressPhase dt address) s = .next s1) ∧
    (s.bus.writing = none →
      (∀ p : Port, s.bus.enabled p = true → s.bus.addressOf p = address.toNat →
        exec (.writeAddressPhase dt address) s = .next
          (if s.bus.queue.length < 8 then
            { s1 with bus := { s1.bus with writing := some p, acknowledged := true } }
          else nak)) ∧
      ((∀ p : Port, s.bus.enabled p = true → s.bus.addressOf p ≠ address.toNat) →
        exec (.writeAddressPhase dt address) s = .next nak))) ∧
  ∀ (dt : Nat) (bytes : List Byte) (s : State),
    let s1 : State := { s with now := s.now + 3 * dt }
    (s.bus.writing = none → exec (.writeEnd dt bytes) s = .next s1) ∧
    ∀ p, s.bus.writing = some p →
      (bytes = [] →
        exec (.writeEnd dt bytes) s = .next { s1 with bus := { s1.bus with writing := none, dataAnswers := [] } }) ∧
      (bytes ≠ [] → ∃ t, exec (.writeEnd dt bytes) s = .next t ∧
        t = { s1 with bus := { s1.bus with
          writing := none
          dataAnswers := List.replicate (min 40 bytes.length) true ++ List.replicate (bytes.length - 40) false
          queue := s.bus.queue ++ [⟨p, bytes.take 40, decide (40 < bytes.length)⟩] } } ∧
        t.bus.queuedCount p = s.bus.queuedCount p + 1 ∧ t.bus.slotState p = 1)

/-- The four ports answer at 0x44 to 0x47, or at 0x64 to 0x67 with ADDRSEL sampled high, Service only while it is
enabled (R177). The address phase of a read to an enabled address captures the port's selected view behind its
header, with the pin levels of the moment, and changes nothing else (R177, R186); the bytes are read from byte 0 on,
and byte 0 again after the last (R186). Every view has the length and the body of section 12.4 (R92, R181, R185,
R187, R190). The model's choices it rests on: log entries 7, 23, 34 and 36. -/
def Obligations.ReadsCaptureTheView : Prop :=
  (∀ b : Bus,
    (b.highBase = false → b.addressOf .console = 0x44 ∧ b.addressOf .safety = 0x45 ∧ b.addressOf .link = 0x46 ∧
      b.addressOf .service = 0x47) ∧
    (b.highBase = true → b.addressOf .console = 0x64 ∧ b.addressOf .safety = 0x65 ∧ b.addressOf .link = 0x66 ∧
      b.addressOf .service = 0x67) ∧
    b.enabled .console = true ∧ b.enabled .safety = true ∧ b.enabled .link = true ∧
    b.enabled .service = b.serviceEnable) ∧
  (∀ (bytes : List Byte) (k : Nat), k < bytes.length →
    bytes[k]? = some (readByte bytes k) ∧ readByte bytes (bytes.length + k) = readByte bytes k) ∧
  (∀ n : Notice, noticeBytes n =
    u8 n.kind.code ++ u8 n.kind.priority ++ u8 (n.index.getD 0xFF) ++ u8 n.count ++ u32 n.time ++
      u8 n.value.isSome.toNat ++
      match n.value with
      | none => [0, 0, 0]
      | some (.mass dg) => i24 dg
      | some (.temperature x) => [0] ++ i16 x
      | some (.causes c) => [0] ++ u16 c.code
      | some (.promptCode code) => [0, 0, code]
      | some (.source x) => [0, 0] ++ u8 x.code
      | some (.lineChange line active) => [0, 0] ++ u8 (line.code + if active then 128 else 0)) ∧
  (∀ (dt : Nat) (address : BitVec 7) (pins : Byte) (p : Port) (s : State), s.bus.enabled p = true →
    s.bus.addressOf p = address.toNat →
    ∃ t, exec (.readAddressPhase dt address pins) s = .next t ∧ t.now = s.now + 3 * dt ∧
      t.aux = { s.aux with lines := s.aux.lines.mapIdx fun k l => { l with pin := pins.getLsbD k } } ∧
      t.bus = { s.bus with acknowledged := true, snapshot := some (p, t.viewBytes p) } ∧
      t = { s with now := t.now, aux := t.aux, bus := t.bus } ∧
      (t.viewBytes p).take 4 =
        u8 (s.bus.views.get p).view.code ++ u16 (s.bus.views.get p).number
          ++ u8 (s.bus.slotState p + 16 * s.bus.queuedCount p) ∧
      (let body := (t.viewBytes p).drop 4
      let n := (s.bus.views.get p).number
      match (s.bus.views.get p).view with
      | .status => (t.viewBytes p).length = 26 ∧
        body = u8 s.run.state.code ++ u8 s.run.cursor ++ u8 s.run.phase.code ++ u8 s.program.length
          ++ u8 (s.program.hold0.getD 0xFF) ++ u8 (s.program.hold1.getD 0xFF) ++ u16 s.run.causes.code
          ++ i24 (min 200000 (s.weigh.reported - s.weigh.tare))
          ++ u8 (s.weigh.settled.isSome.toNat + 2 * s.weigh.tareTimer.isSome.toNat
            + 4 * (if 200000 < s.weigh.reported - s.weigh.tare then RangeFlag.overrange else s.weigh.range).code)
          ++ u8 (s.weigh.lastKind.getD s.weigh.kind).code ++ i16 (s.thermal.tb.getD (-32768))
          ++ u16 s.thermal.grant ++ u8 s.blade.commanded ++ u8 (actualLevel s.blade.actual)
          ++ u8 s.safety.lease.code
          ++ u8 (s.safety.stopLatch.toNat + 2 * s.safety.heatPermit.active.toNat
            + 4 * s.safety.motionPermit.active.toNat + 8 * s.safety.lidClosed.active.toNat)
          ++ u8 (s.notices.get p).entries.length
      | .reply => (t.viewBytes p).length = 32 ∧
        let slot := s.bus.slots.get p
        body = u8 (slot.code.isSome.toNat + 2 * slot.result.isSome.toNat) ++ [slot.code.getD 0]
          ++ u8 ((slot.result.map ResultCode.code).getD 0) ++ u8 slot.data.length
          ++ (slot.data ++ List.replicate 24 0).take 24
      | .step =>
        (s.program.steps[n]? = none → body = [0]) ∧
        ∀ r ∈ s.program.steps[n]?, body = [1] ++ recordBytes r ∧
          (t.viewBytes p).length = 10 + 5 * r.heat.isSome.toNat + 4 * r.stir.isSome.toNat
            + 5 * r.weigh.isSome.toNat + 3 * r.time.isSome.toNat + r.prompt.isSome.toNat
      | .result => (t.viewBytes p).length = 15 ∧
        ∀ r ∈ s.program.results[n]?, body = u8 r.outcome.code ++ u8 ((r.reason.map EndReason.code).getD 0xFF)
          ++ u24 r.activeTime ++ i16 (r.peak.getD (-32768)) ++ i24 (r.netAtExit.getD 0)
          ++ u8 (r.overshoot.toNat + 2 * r.forcedTare.toNat + 4 * r.netAtExit.isSome.toNat)
      | .log => (t.viewBytes p).length = 86 ∧
        let refs := s.log.refs.getD ⟨0, 0, 0⟩
        let oldest := (s.log.entries.head?.map Entry.number).getD 0
        let first := if n = 0 then oldest else n
        let slot := fun k : Nat => match s.log.entries.find? fun e => decide (e.number = k) with
          | none => List.replicate 16 0
          | some e => u16 e.number ++ u8 e.step ++ u8 e.kind.code ++ i24 e.delta ++ i24 e.gross ++ u32 e.time
            ++ i16 (e.temp.getD (-32768))
        body = u8 (s.log.isOpen.toNat + 2 * s.log.exhausted.toNat + 4 * s.log.refs.isSome.toNat)
          ++ u8 s.log.entries.length ++ u16 oldest ++ u16 s.log.nextNumber ++ i24 refs.origin
          ++ i24 refs.baseline ++ i24 refs.last ++ i24 s.log.dropped ++ slot first ++ slot (first + 1)
          ++ slot (first + 2) ++ slot (first + 3)
      | .notices => (t.viewBytes p).length = 150 ∧
        let l := s.notices.get p
        body = u8 l.lost.toNat ++ u8 l.entries.length
          ++ ((l.entries.map noticeBytes).flatten ++ List.replicate 144 0).take 144
      | .lines => (s.aux.lines.length = 8 → (t.viewBytes p).length = 28) ∧
        body = (t.aux.lines.map fun l : AuxLine =>
          let shown : Bool := match l.function with
            | .gpIn | .scaleTrigIn => l.pin
            | .gpOut => l.latch
            | .lidLock => s.aux.lockEngaged
            | .ventFan => decide (s.thermal.vent ≠ .off)
            | .buzzer => s.aux.buzzer.any fun b => decide (b.phase % 2 = 0)
            | .stepMark => s.aux.stepMark
            | .runLamp => s.aux.lamp
          u8 l.function.code ++ u8 l.latch.toNat ++ u8 shown.toNat).flatten
      | .config => (s.thermal.table.length = 17 → (t.viewBytes p).length = 118) ∧
        let filter := fun f : Filter => u8 f.enabled.toNat ++ u8 (16 * f.code.toNat + f.mask.toNat)
        let filters := s.bus.filters
        body = i24 s.weigh.cal.zero ++ u16 s.weigh.cal.gain ++ i16 s.weigh.cal.tc ++ i16 s.weigh.cal.tcal
          ++ u8 s.weigh.policy.pairs ++ u8 s.weigh.policy.trigger.code ++ u16 s.weigh.policy.still
          ++ u16 s.weigh.policy.motion ++ u16 s.weigh.policy.threshold
          ++ u16 s.thermal.rh ++ u16 s.thermal.rating ++ u16 s.thermal.kmains
          ++ (s.thermal.table.map fun q => u16 q.1 ++ i16 q.2).flatten
          ++ u16 s.budget.watts ++ u8 s.safety.interval ++ u16 s.safety.limit
          ++ filter filters.console.a ++ filter filters.console.b ++ filter filters.safety.a
          ++ filter filters.safety.b ++ filter filters.link.a ++ filter filters.link.b
          ++ filter filters.service.a ++ filter filters.service.b
          ++ u8 s.bus.serviceEnable.toNat ++ u8 s.bus.highBase.toNat)) ∧
  ∀ (dt : Nat) (address : BitVec 7) (pins : Byte) (s : State),
    (∀ p : Port, s.bus.enabled p = true → s.bus.addressOf p ≠ address.toNat) →
    exec (.readAddressPhase dt address pins) s = .next
      { s with now := s.now + 3 * dt, bus := { s.bus with acknowledged := false } }

/-! ## The run's own time -/

/-- The run clock rises by 1 in RUNNING and HELD, up to its greatest value (R23); the active time rises by 1 in
RUNNING with the step ACTIVE, up to 144,000, and the result at the cursor shows it (R11, R28); at other times
neither rises. TIME_DONE latches in RUNNING when the active time of an ACTIVE step with a Time part has risen to
its duration, counted from the entry or from the reached mark, and ends the step when the end decision says so
(R27, R29, R30); OVERDUE holds the run once when the active time has risen to the limit (R32, R33, R35). That
either is judged by a risen active time is log entry 9. The model's choices it rests on: log entries 14 and 31. -/
def Obligations.RunTimeDrivesTheStep : Prop :=
  (∀ (dt : Nat) (s : State),
    let clock := if s.run.state = .running ∨ s.run.state = .held then min 4294967295 (s.run.clock + 1)
      else s.run.clock
    exec (.runClockTick dt) s = .next
      { s with now := s.now + 3 * dt, run := { s.run with clock := clock } }) ∧
  (∀ (dt : Nat) (s : State),
    let n := min 144000 (s.run.active + 1)
    exec (.activeTimeTick dt) s = .next
      (if s.run.state = .running ∧ s.run.phase = .active then
        { s with
          now := s.now + 3 * dt, run := { s.run with active := n, countRose := true }
          program := { s.program with
            results := s.program.results.modify s.run.cursor fun r => { r with activeTime := n } } }
      else { s with now := s.now + 3 * dt })) ∧
  (∀ (s : State) (r : StepRecord) (x : TimePart), s.record = some r → r.time = some x →
    let counted := match x.start with
      | .fromEntry => x.duration * 10 ≤ s.run.active
      | .fromReached => ∃ mark ∈ s.run.reached, mark + x.duration * 10 ≤ s.run.active ∨ 144000 ≤ s.run.active
    let all := s.run.met ++ [.timeDone]
    (s.run.state ≠ .running ∨ s.run.phase ≠ .active ∨ s.run.countRose = false ∨ .timeDone ∈ s.run.met ∨
      ¬ counted → exec .timeDone s = .next s) ∧
    (s.run.state = .running → s.run.phase = .active → s.run.countRose = true → .timeDone ∉ s.run.met →
      counted →
      (r.ends all = none → exec .timeDone s = .next { s with run := { s.run with met := all } }) ∧
      ∀ reason ∈ r.ends all, s.run.cursor < s.program.results.length →
        ∃ t, exec .timeDone s = .next t ∧ t.outcomeAt s.run.cursor = some (.completed, some reason) ∧
          t.run.cursor = s.run.cursor + 1 ∧ t.program.steps = s.program.steps ∧ t.now = s.now ∧
          t.converter = s.converter ∧ t.safety = s.safety ∧ t.bus = s.bus ∧ t.pending = s.pending)) ∧
  ∀ s : State,
    (s.run.state ≠ .running ∨ s.run.phase ≠ .active ∨ s.run.countRose = false ∨ s.run.overdueTaken = true →
      exec .overdue s = .next s) ∧
    ∀ r ∈ s.record, ∀ l ∈ r.limit, s.run.state = .running → s.run.phase = .active →
      s.run.countRose = true → s.run.overdueTaken = false →
      (s.run.active < l * 10 → exec .overdue s = .next s) ∧
      (l * 10 ≤ s.run.active → s.run.causes.overdue = false → ∃ t, exec .overdue s = .next t ∧
        t.run = { s.run with
          state := .held, overdueTaken := true, causes := { s.run.causes with overdue := true } } ∧
        t.notices = s.noticesAfter .held (some s.run.cursor) (some (.causes t.run.causes)) ∧
        t.blade.commanded = 0 ∧ t.blade.stir = .zero ∧
        t.thermal.setPoint = (r.heat.map fun h => ⟨min h.target 650, h.cap, h.band⟩) ∧
        s.handoverFrame t ∧
        t = { s with
          run := t.run, thermal := t.thermal, weigh := t.weigh, blade := t.blade, notices := t.notices
          aux := t.aux })

/-! ## The shared converter -/

/-- The arbiter of a free converter begins the waiting request of the highest priority: a SCALE burst, then
MAINS, then BASE before ELEMENT before CELL, then MOTOR_I (R143, R144); with work in progress every request
waits. Requests that arrive together at a free converter all wait when the arbiter chooses, in whatever order they
are placed: work chosen on an arrival at the present moment waits again before another request of that moment is
placed, and thermistor and motor timers that run out together leave the same converter either way (R144). The
thermistor timer places its three requests every 100 ms (R94), the motor current timer its one every 50 ms (R133),
and a request that already waits is merged (R146). The end of a CELL conversion sets the CELL reading (R94); the
end of a MOTOR_I conversion adds a power sample to the window accumulation (R133, R134); the converter is free and
the arbiter chooses again (R145, R148). An end of a conversion that is not in progress has no effect (log entry 4).
The model's choices it rests on: log entry 17. -/
def Obligations.ConverterServesByPriority : Prop :=
  (∀ (c : Converter) (now : Nat),
    (c.work ≠ .free → c.choose now = c ∧ c.arrive now = c) ∧
    (c.work = .free →
      let begun : Option Nat → Converter := fun at_ =>
        let next := { c with chosenAt := at_ }
        match c.scale with
        | some n => { next with scale := none, work := .burst n now }
        | none =>
          if c.mains then { next with mains := false, work := .single .mains c.mainsLive (now + 1500) }
          else if c.base then { next with base := false, work := .single .base true (now + 1500) }
          else if c.element then { next with element := false, work := .single .element true (now + 1500) }
          else if c.cell then { next with cell := false, work := .single .cell true (now + 1500) }
          else if c.motorI then { next with motorI := false, work := .single .motorI true (now + 1500) }
          else next
      c.choose now = begun none ∧ c.arrive now = begun (some now))) ∧
  (∀ (c : Converter) (now : Nat),
    (c.chosenAt ≠ some now → c.recall now = c) ∧
    (c.chosenAt = some now →
      let waiting := { c with work := .free, chosenAt := none }
      (c.work = .free → c.recall now = waiting) ∧
      (∀ n began, c.work = .burst n began → c.recall now = { waiting with scale := some n }) ∧
      ∀ channel live ends, c.work = .single channel live ends → c.recall now =
        match channel with
        | .mains => { waiting with mains := true, mainsLive := live }
        | .base => { waiting with base := true }
        | .element => { waiting with element := true }
        | .cell => { waiting with cell := true }
        | .motorI => { waiting with motorI := true })) ∧
  (∀ s : State,
    let now := max s.now s.thermal.timerDue
    exec .thermistorTimer s = .next
      { s with
        now := now, thermal := { s.thermal with timerDue := s.thermal.timerDue + 300000 }
        converter := Converter.arrive
          { s.converter.recall now with base := true, element := true, cell := true } now }) ∧
  (∀ s : State,
    let now := max s.now s.blade.motorDue
    exec .motorITimer s = .next
      { s with
        now := now, blade := { s.blade with motorDue := s.blade.motorDue + 150000 }
        converter := Converter.arrive { s.converter.recall now with motorI := true } now }) ∧
  (∀ (s t1 t2 u1 u2 : State), s.converter.work = .free →
    max s.now s.thermal.timerDue = max s.now s.blade.motorDue →
    exec .thermistorTimer s = .next t1 → exec .motorITimer t1 = .next t2 →
    exec .motorITimer s = .next u1 → exec .thermistorTimer u1 = .next u2 → t2 = u2) ∧
  (∀ (live : Bool) (ends : Nat) (code : BitVec 12) (s : State), s.converter.work = .single .cell live ends →
    let now := max s.now ends
    exec (.conversionComplete .cell code) s = .next
      { s with
        now := now, thermal := { s.thermal with cell := readingOf s.thermal.table code.toNat }
        converter := Converter.choose { s.converter with work := .free } now }) ∧
  (∀ (live : Bool) (ends : Nat) (code : BitVec 12) (s : State), s.converter.work = .single .motorI live ends →
    let now := max s.now ends
    let amps := (code.toNat * 2000 * 2 + 1024) / 2048
    let watts := (s.thermal.volts.getD 0 * amps * 1414 * 2 + 10000000) / 20000000
    exec (.conversionComplete .motorI code) s = .next
      { s with
        now := now
        blade := { s.blade with
          power := watts, powerSum := s.blade.powerSum + watts, powerCount := s.blade.powerCount + 1 }
        converter := Converter.choose { s.converter with work := .free } now }) ∧
  ∀ (channel : Channel) (code : BitVec 12) (s : State),
    (∀ live ends, s.converter.work ≠ .single channel live ends) →
    exec (.conversionComplete channel code) s = .next s

/-- R96 as a whole, for a table that R95 admits: no temperature outside the table, and inside it the one of the
code's segment, between the temperatures of the segment's two points, within −500..4,000 where the table's points
are in the ranges of R95, and exact at a point; and the manual's conversions with the nominal table. -/
def Obligations.CodesAreConvertedByTheTable : Prop :=
  (∀ (table : List (Nat × Int)) (code : Nat), table.length = 17 → tableInOrder table = true →
    (∀ q ∈ table.head?, code < q.1 → readingOf table code = .invalid) ∧
    (∀ q ∈ table.getLast?, q.1 < code → readingOf table code = .invalid) ∧
    ∀ (k : Nat) (a b : Nat × Int), table[k]? = some a → table[k + 1]? = some b → a.1 ≤ code →
      (code < b.1 ∨ (k = 15 ∧ code = b.1)) →
      ∃ x, readingOf table code = .valid x ∧
        x = a.2 + roundDiv ((b.2 - a.2) * ((code : Int) - a.1)) (b.1 - a.1) ∧ b.2 ≤ x ∧ x ≤ a.2 ∧
        ((∀ q ∈ table, q.1 ≤ 4095 ∧ -500 ≤ q.2 ∧ q.2 ≤ 4000) → -500 ≤ x ∧ x ≤ 4000) ∧
        (code = a.1 → x = a.2) ∧ (code = b.1 → x = b.2)) ∧
  readingOf Config.nominalTable 2100 = .valid 584 ∧ readingOf Config.nominalTable 2048 = .valid 600 ∧
  readingOf Config.nominalTable 140 = .valid 3125 ∧ readingOf Config.nominalTable 3840 = .valid (-250) ∧
  readingOf Config.nominalTable 100 = .invalid ∧ readingOf Config.nominalTable 3900 = .invalid

/-- The end of a BASE conversion sets the BASE reading, the base history and Tb (R94, R98) and hands a new Tb to
the peak of an ACTIVE result (R11); a sensor fault that begins cuts the grant and sends its notice, with the cursor
in a run (R99), and the interlock causes of a run, or manual operation, follow the reading (R33, R34, R47). The
model's choices it rests on: log entries 18, 19 and 24. -/
def Obligations.BaseCodesFormTheBaseTemperature : Prop :=
  ∀ (live : Bool) (ends : Nat) (code : BitVec 12) (s : State), s.converter.work = .single .base live ends →
    let reading := readingOf s.thermal.table code.toNat
    let fault := reading = .invalid ∧ s.thermal.base ≠ .invalid
    let history := match reading with
      | .valid x => (if s.thermal.baseHistory.length < 4 then s.thermal.baseHistory
          else s.thermal.baseHistory.drop (s.thermal.baseHistory.length - 3)) ++ [x]
      | .none | .invalid => []
    let shown := (s.run.state.inRun = true ∨ s.run.state = .halted) ∧
      (s.outcomeAt s.run.cursor).map Prod.fst = some .active
    ∃ t, exec (.conversionComplete .base code) s = .next t ∧ t.now = max s.now ends ∧
      t.converter = Converter.choose { s.converter with work := .free } t.now ∧
      t.thermal.base = reading ∧ t.thermal.baseHistory = history ∧
      t.thermal.tb = (if reading = .invalid then none else some (roundDiv (sumInt history) history.length)) ∧
      (∀ x ∈ t.thermal.tb, shown → t.program = { s.program with
        results := s.program.results.modify s.run.cursor fun r =>
          { r with peak := some (max x (r.peak.getD x)) } }) ∧
      (t.thermal.tb = none ∨ ¬ shown → t.program = s.program) ∧
      (fault → t.thermal.grant = 0 ∧ t.thermal.gate = false) ∧
      s.reexamined t (if fault then s.noticesAfter .sensor s.runIndex (some (.source .base)) else s.notices) ∧
      (fault → s.stepNeedsHeat = true → s.RunSound →
        t.run.state = .held ∧ t.run.causes.sensor = true ∧ t.run.causes.ack = true) ∧
      s.blade.handoverFrame t.blade ∧
      t = { s with
        now := t.now, program := t.program, run := t.run, converter := t.converter, blade := t.blade
        weigh := { s.weigh with kind := t.weigh.kind }, notices := t.notices, aux := t.aux
        thermal := { s.thermal with
          base := t.thermal.base, baseHistory := t.thermal.baseHistory, setPoint := t.thermal.setPoint
          grant := t.thermal.grant, gate := t.thermal.gate, vent := t.thermal.vent } }

/-- The end of an ELEMENT conversion sets the ELEMENT reading and the element protection flag: set at 3000 or
above, cleared below 2700; a reading that becomes invalid and a flag that becomes set cut the grant and send
their notice, and the run goes on (R100, R101). The model's choices it rests on: log entries 18 and 19. -/
def Obligations.ElementCodesGuardTheElement : Prop :=
  ∀ (live : Bool) (ends : Nat) (code : BitVec 12) (s : State), s.converter.work = .single .element live ends →
    let reading := readingOf s.thermal.table code.toNat
    let fault := reading = .invalid ∧ s.thermal.element ≠ .invalid
    ∃ t, exec (.conversionComplete .element code) s = .next t ∧ t.now = max s.now ends ∧
      t.converter = Converter.choose { s.converter with work := .free } t.now ∧
      t.thermal.element = reading ∧
      (reading = .invalid → t.thermal.hot = s.thermal.hot) ∧
      (∀ x, reading = .valid x →
        (3000 ≤ x → t.thermal.hot = true) ∧ (x < 2700 → t.thermal.hot = false) ∧
        (2700 ≤ x → x < 3000 → t.thermal.hot = s.thermal.hot)) ∧
      (fault → t.thermal.grant = 0 ∧ t.thermal.gate = false ∧
        t.notices = s.noticesAfter .sensor s.runIndex (some (.source .element))) ∧
      (∀ x, reading = .valid x → s.thermal.hot = false → t.thermal.hot = true →
        t.thermal.grant = 0 ∧ t.thermal.gate = false ∧
        t.notices = s.noticesAfter .elementHot s.runIndex (some (.temperature x))) ∧
      (¬ fault → (s.thermal.hot = true ∨ t.thermal.hot = false) →
        t.thermal = { s.thermal with element := reading, hot := t.thermal.hot } ∧ t.notices = s.notices) ∧
      s.blade.handoverFrame t.blade ∧
      t = { s with
        now := t.now, converter := t.converter, notices := t.notices, blade := t.blade
        weigh := { s.weigh with kind := t.weigh.kind }
        aux := { s.aux with lockEngaged := t.aux.lockEngaged, lockedAt := t.aux.lockedAt }
        thermal := { s.thermal with
          element := t.thermal.element, hot := t.thermal.hot, grant := t.thermal.grant
          gate := t.thermal.gate, vent := t.thermal.vent } }

/-! ## Mains and the heater window -/

/-- The end of the MAINS conversion of a window gives V and with it the mains state: LOST below 900 dV,
UNDERVOLT below 1,800; a change of state sends its notice, with the cursor in a run, LOST takes heat and motion and
releases the inverter, and the interlock causes of a run, or manual operation, follow the mains (R33, R34, R47,
R104, R105, R127). The code of an abandoned window is discarded (R104). The model's choices it rests on: log
entries 18 and 19. -/
def Obligations.MainsCodesGiveTheMainsState : Prop :=
  ∀ (live : Bool) (ends : Nat) (code : BitVec 12) (s : State), s.converter.work = .single .mains live ends →
    let v := (code.toNat * s.thermal.kmains * 2 + 4096) / 8192
    let m : MainsState := if v < 900 then .lost else if v < 1800 then .undervolt else .present
    let notices := match m with
      | .present => s.notices
      | .undervolt => s.noticesAfter .sensor s.runIndex (some (.source .mainsLow))
      | .lost => s.noticesAfter .sensor s.runIndex (some (.source .mainsLost))
    ∃ t, exec (.conversionComplete .mains code) s = .next t ∧ t.now = max s.now ends ∧
      t.converter = Converter.choose { s.converter with work := .free } t.now ∧
      (live = false → t = { s with now := t.now, converter := t.converter }) ∧
      (live = true → m = s.thermal.mains →
        t = { s with
          now := t.now, converter := t.converter, thermal := { s.thermal with volts := some v } }) ∧
      (live = true → m ≠ s.thermal.mains →
        t.thermal.mains = m ∧ t.thermal.volts = some v ∧
        (m = .lost → s.enablesLost t ∧ t.blade.inverter = .off ∧ t.blade.effective = 0) ∧
        (s.thermal.mains = .lost → s.blade.inverter = .off →
          (s.blade.lastPulse.all fun l => decide (l + 1500000 ≤ t.now)) = true →
          t.blade.inverter = .driving) ∧
        (m = .lost → s.stepActive = true → s.RunSound →
          t.run.state = .held ∧ t.run.causes.mains = true ∧ t.run.causes.ack = true) ∧
        s.reexamined t notices) ∧
      s.blade.handoverFrame t.blade ∧
      t = { s with
        now := t.now, converter := t.converter, run := t.run, blade := t.blade, notices := t.notices
        weigh := { s.weigh with kind := t.weigh.kind }, aux := t.aux
        thermal := { s.thermal with
          mains := t.thermal.mains, volts := t.thermal.volts, setPoint := t.thermal.setPoint
          grant := t.thermal.grant, gate := t.thermal.gate, vent := t.thermal.vent } }

/-- When the loss timer runs out the mains state is LOST and the window is abandoned: no cycle, no grant, no duty, no
firing, an empty accumulation, and a MAINS request that belongs to no window (R103, R104, R105, R134); a loss that
begins sends its notice, with the cursor in a run, and ends what R33, R34 and R47 say. The model's choices it rests
on: log entries 4, 18, 19 and 35. -/
def Obligations.LostMainsAbandonsTheWindow : Prop :=
  (∀ s : State, s.thermal.lossTimer = none → exec .mainsLossTimeout s = .next s) ∧
  ∀ (s : State) (moment : Nat), s.thermal.lossTimer = some moment →
    ∃ t, exec .mainsLossTimeout s = .next t ∧ t.now = max s.now moment ∧
      t.thermal.mains = .lost ∧ t.thermal.lossTimer = none ∧ t.thermal.cycle = none ∧ t.thermal.grant = 0 ∧
      t.thermal.duty = 0 ∧ t.thermal.gate = false ∧ t.blade.powerSum = 0 ∧ t.blade.powerCount = 0 ∧
      t.blade.pmot = s.blade.pmot ∧ t.converter = s.converter.orphanMains ∧
      t.converter.mainsLive = false ∧ (∀ ends, t.converter.work ≠ .single .mains true ends) ∧
      (s.thermal.mains = .lost → t.run = s.run ∧ t.notices = s.notices) ∧
      (s.thermal.mains ≠ .lost →
        t.blade.inverter = .off ∧ t.blade.effective = 0 ∧ t.blade.commanded = 0 ∧
        s.reexamined t (s.noticesAfter .sensor s.runIndex (some (.source .mainsLost))) ∧
        (s.stepActive = true → s.RunSound →
          t.run.state = .held ∧ t.run.causes.mains = true ∧ t.run.causes.ack = true)) ∧
      t = { s with
        now := t.now, run := t.run, converter := t.converter, blade := t.blade, notices := t.notices
        weigh := { s.weigh with kind := t.weigh.kind }, aux := t.aux
        thermal := { s.thermal with
          mains := .lost, lossTimer := none, cycle := none, duty := 0, setPoint := t.thermal.setPoint
          grant := 0, gate := false, vent := t.thermal.vent } }

/-- R107 as a whole: the cap from an error of the band on, 0 at or above the target, in proportion between, never
above the cap, and 0 without a set point or without Tb; with the manual's own values. -/
def Obligations.HeaterRequestFollowsTheControlLaw : Prop :=
  (∀ (q : HeatPoint) (tb : Int),
    let e := (q.target : Int) - tb
    heaterRequest (some q) (some tb) ≤ q.cap ∧ ((q.band : Int) ≤ e → heaterRequest (some q) (some tb) = q.cap) ∧
    (e < q.band → e ≤ 0 → heaterRequest (some q) (some tb) = 0) ∧
    (e < q.band → 0 < e → ((heaterRequest (some q) (some tb) : Nat) : Int) = q.cap * e / q.band)) ∧
  (∀ tb, heaterRequest none tb = 0) ∧ (∀ q, heaterRequest q none = 0) ∧
  heaterRequest (some ⟨1000, 1200, 50⟩) (some 962) = 912 ∧
  heaterRequest (some ⟨1000, 1200, 50⟩) (some 940) = 1200 ∧
  heaterRequest (some ⟨1000, 1200, 50⟩) (some 1003) = 0 ∧ heaterRequest (some ⟨650, 50, 200⟩) (some 649) = 0 ∧
  heaterRequest (some ⟨1600, 1500, 200⟩) (some 1550) = 375

/-- A crossing without a counted period only starts the next one (R102). A counted crossing restarts the loss
timer (R103) and begins the next cycle of the window, whose gate fires when the cycle is marked, heat is enabled
and the grant stands (R113); after cycle 49 the window ends, with the budget's judgement, and after it, or without
a window, a window begins, stage by stage: the MAINS request, the TEMP_REACHED test, the grant of R111 from the set
point then in force, and the duty of R112 (R109, R114, R134, R137, R139, R140). The accumulation is empty at every
window start (R134). The TEMP_REACHED test latches, with the reached mark, at 10 below the step's own target, and in
RUNNING may end the step (R27, R29, R30, R108). Heat is enabled as R110 says. The model's choices it rests on: log
entries 4, 13, 16, 17, 19 and 25. -/
def Obligations.CrossingsDriveTheWindow : Prop :=
  (∀ s : State, s.heatEnabled = true ↔
    s.safety.stopLatch = false ∧ s.safety.heatPermit.active = true ∧ s.safety.lidClosed.active = true ∧
    s.safety.lease = .live ∧ (∃ x, s.thermal.base = .valid x) ∧ (∃ x, s.thermal.element = .valid x) ∧
    s.thermal.mains ≠ .lost ∧ s.thermal.hot = false ∧
    (s.run.state = .running ∨ s.run.state = .held ∨ s.run.state = .manual)) ∧
  (∀ s : State,
    (s.activeRecord.bind StepRecord.heat = none ∨ s.thermal.tb = none ∨ .tempReached ∈ s.run.met →
      s.testTemp = s) ∧
    ∀ r ∈ s.activeRecord, ∀ h ∈ r.heat, ∀ x ∈ s.thermal.tb,
      let met := s.run.met ++ [.tempReached]
      let t := s.testTemp
      (x < (h.target : Int) - 10 → t = s) ∧
      ((h.target : Int) - 10 ≤ x → .tempReached ∉ s.run.met →
        (s.run.state = .held ∨ r.ends met = none →
          t = { s with run := { s.run with met := met, reached := some s.run.active } }) ∧
        ∀ reason ∈ r.ends met, s.run.state = .running → s.run.cursor < s.program.results.length →
          t.outcomeAt s.run.cursor = some (.completed, some reason) ∧ t.run.cursor = s.run.cursor + 1 ∧
          t.program.steps = s.program.steps ∧ t.now = s.now ∧ t.converter = s.converter ∧
          t.safety = s.safety ∧ t.bus = s.bus ∧ t.pending = s.pending)) ∧
  ∀ (dt : Nat) (s : State),
    let now := s.now + 3 * dt
    let counted := ∃ c ∈ s.thermal.lastCrossing, 46155 ≤ now - c ∧ now - c ≤ 66666
    let period := now - s.thermal.lastCrossing.getD 0
    let s1 : State := { s with now := now, thermal := { s.thermal with
      lastCrossing := some now, lastPeriod := some period, lossTimer := some (now + 3 * period) } }
    (¬ counted → exec (.mainsZeroCrossing dt) s = .next
      { s with now := now, thermal := { s.thermal with lastCrossing := some now } }) ∧
    (counted → ∀ k, s.thermal.cycle = some k → k + 1 < 50 →
      let isMarked := (k + 2) * s.thermal.duty / 50 - (k + 1) * s.thermal.duty / 50 = 1
      exec (.mainsZeroCrossing dt) s = .next { s1 with thermal := { s1.thermal with
        cycle := some (k + 1)
        gate := decide (isMarked ∧ s.heatEnabled = true ∧ 0 < s.thermal.grant) } }) ∧
    (counted → (∀ k, s.thermal.cycle = some k → 50 ≤ k + 1) →
      let ended := s.thermal.cycle.isSome
      let pmot := if s.blade.powerCount = 0 then 0
        else (2 * s.blade.powerSum + s.blade.powerCount) / (2 * s.blade.powerCount)
      let judged := if ended then s1.endWindow else s1
      let started : State := { judged with
        thermal := { judged.thermal with cycle := some 0, gate := false }
        blade := { judged.blade with powerSum := 0, powerCount := 0 }
        budget := { judged.budget with peak := s.blade.effective }
        converter := Converter.arrive { s.converter.recall now with mains := true, mainsLive := true } now }
      let tested := started.testTemp
      ∃ t, exec (.mainsZeroCrossing dt) s = .next t ∧
        t = { tested with thermal := { tested.thermal with
          grant := t.thermal.grant, duty := t.thermal.duty, gate := t.thermal.gate, vent := t.thermal.vent } } ∧
        t.now = now ∧ t.thermal.cycle = some 0 ∧ t.thermal.lastCrossing = some now ∧
        t.thermal.lastPeriod = some period ∧ t.thermal.lossTimer = some (now + 3 * period) ∧
        t.converter = Converter.arrive { s.converter.recall now with mains := true, mainsLive := true } now ∧
        t.blade.powerSum = 0 ∧ t.blade.powerCount = 0 ∧
        (ended = true → t.blade.pmot = pmot ∧ t.budget.remainder = s.budget.watts - 40 - pmot) ∧
        (ended = false → t.blade.pmot = s.blade.pmot ∧ t.budget.remainder = s.budget.remainder) ∧
        t.budget.peak = s.blade.effective ∧ t.budget.watts = s.budget.watts ∧
        t.thermal.grant = (if t.heatEnabled then
          min (heaterRequest t.thermal.setPoint t.thermal.tb)
            (min s.thermal.rating (min s.safety.limit t.budget.remainder)) else 0) ∧
        t.thermal.duty = (if t.thermal.grant = 0 then 0
          else min 50 (roundDiv (t.thermal.grant * 50 : Nat)
            (s.thermal.volts.getD 0 * s.thermal.volts.getD 0 / s.thermal.rh)).toNat) ∧
        t.thermal.gate = decide (t.thermal.duty = 50 ∧ 0 < t.thermal.grant) ∧
        (s.stepActive = false →
          t.run = s.run ∧ t.program = s.program ∧ t.log = s.log ∧ t.thermal.setPoint = s.thermal.setPoint) ∧
        t = { s with
          now := now, program := t.program, run := t.run, log := t.log, blade := t.blade, budget := t.budget
          converter := t.converter, notices := t.notices, aux := t.aux
          weigh := { s.weigh with
            kind := t.weigh.kind, tareTimer := t.weigh.tareTimer, nearArmed := t.weigh.nearArmed }
          thermal := { s.thermal with
            lastCrossing := t.thermal.lastCrossing, lastPeriod := t.thermal.lastPeriod
            lossTimer := t.thermal.lossTimer, setPoint := t.thermal.setPoint, cycle := t.thermal.cycle
            grant := t.thermal.grant, duty := t.thermal.duty, gate := t.thermal.gate
            vent := t.thermal.vent } })

/-- The window end judges the motor's draw: three windows in a row above BUDGET − 40 put the derate ceiling one
below the window peak level, with BUDGET_DERATE, when the peak is 2 or more (R139); under a ceiling, from the
fifth light window in a row on, the ceiling rises by 1, and goes when it reaches the level of the set point
(R140, R141). -/
def Obligations.WindowEndJudgesTheBudget : Prop :=
  ∀ s : State,
    let pmot := if s.blade.powerCount = 0 then 0
      else (2 * s.blade.powerSum + s.blade.powerCount) / (2 * s.blade.powerCount)
    let heavy := s.budget.watts - 40 < pmot
    let light := 10 * pmot < 8 * (s.budget.watts - 40)
    let remainder := s.budget.watts - 40 - pmot
    let t := s.endWindow
    t.blade.pmot = pmot ∧ t.blade.powerSum = 0 ∧ t.blade.powerCount = 0 ∧ t.budget.remainder = remainder ∧
    (heavy → s.budget.overCount < 2 → t.budget.overCount = s.budget.overCount + 1) ∧
    (¬ heavy → t.budget.overCount = 0) ∧
    (heavy → 2 ≤ s.budget.overCount →
      t.budget.overCount = 0 ∧
      (2 ≤ s.budget.peak → t.budget.ceiling = some (s.budget.peak - 1) ∧ t.budget.underCount = 0 ∧
        t.notices = s.noticesAfter .budgetDerate s.runIndex none) ∧
      (s.budget.peak < 2 → t.budget.ceiling = s.budget.ceiling ∧ t.notices = s.notices)) ∧
    (¬ heavy ∨ s.budget.overCount < 2 → t.notices = s.notices ∧
      (s.budget.ceiling = none → t.budget.ceiling = none) ∧
      ∀ c ∈ s.budget.ceiling,
        (¬ light → t.budget.ceiling = some c ∧ t.budget.underCount = 0) ∧
        (light → s.budget.underCount < 4 →
          t.budget.ceiling = some c ∧ t.budget.underCount = s.budget.underCount + 1) ∧
        (light → 4 ≤ s.budget.underCount →
          if s.blade.stir.level ≤ c + 1 then t.budget.ceiling = none ∧ t.budget.underCount = 0
          else t.budget.ceiling = some (c + 1) ∧ t.budget.underCount = 5)) ∧
    s.bladeFrame { t with budget := s.budget, notices := s.notices }

/-! ## Blade drive -/

/-- An accepted pulse gives the actual speed from the period since the accepted pulse before it, or from the
rise of the effective level, and triggers a sample under AUTO with kind ANGLE; a candidate within 5,000 µs of
the last accepted pulse is ignored (R54, R55, R129, R130). Between pulses the actual speed falls to that of the
elapsed time, and to 0 after 3.0 s (R130). The model's choices it rests on: log entries 4, 15, 16 and 17. -/
def Obligations.PulsesGiveTheActualSpeed : Prop :=
  (∀ (dt : Nat) (s : State),
    let now := s.now + 3 * dt
    let accepted := ∀ l ∈ s.blade.lastPulse, l + 15000 ≤ now
    let near := ∃ l ∈ s.blade.lastPulse, now ≤ l + 9000000
    (¬ accepted → exec (.indexPulse dt) s = .next { s with now := now }) ∧
    (accepted → ∃ t, exec (.indexPulse dt) s = .next t ∧ t.now = now ∧
      t.blade = { s.blade with
        lastPulse := some now, lastPeriod := t.blade.lastPeriod, actual := t.blade.actual
        checkDue := now + 30000, commanded := t.commandedLevel, ramp := t.blade.ramp
        settle := t.blade.settle, stallTimer := t.blade.stallTimer } ∧
      (∀ l ∈ s.blade.lastPulse, now ≤ l + 9000000 →
        t.blade.lastPeriod = some (now - l) ∧ t.blade.actual = (roundDiv 180000000 (now - l)).toNat) ∧
      (¬ near → ∀ x ∈ s.blade.roseAt, now ≤ x + 9000000 → x + 15000 ≤ now →
        t.blade.lastPeriod = some (now - x) ∧ t.blade.actual = (roundDiv 180000000 (now - x)).toNat) ∧
      (¬ near → (∀ x ∈ s.blade.roseAt, x + 9000000 < now ∨ now < x + 15000) →
        t.blade.lastPeriod = s.blade.lastPeriod ∧ t.blade.actual = 0) ∧
      t.weigh.kind = kindFor s.weigh.policy.trigger t.blade.commanded false ∧
      (if s.weigh.policy.trigger = .auto ∧ t.weigh.kind = .angle ∧ s.converter.scale = none ∧
          s.converter.work.isBurst = false then
        t.weigh.sampleKind = .angle ∧
        t.converter = Converter.arrive { s.converter.recall now with scale := some s.weigh.policy.pairs } now
      else t.weigh.sampleKind = s.weigh.sampleKind ∧ t.converter = s.converter) ∧
      t.aux.lockEngaged = t.lockCondition ∧
      t = { s with
        now := now, blade := t.blade, converter := t.converter
        weigh := { s.weigh with kind := t.weigh.kind, sampleKind := t.weigh.sampleKind }
        aux := { s.aux with lockEngaged := t.aux.lockEngaged, lockedAt := t.aux.lockedAt } })) ∧
  (∀ s : State, ∃ t, exec .speedCheck s = .next t ∧ t.now = max s.now s.blade.checkDue ∧
    t.blade.checkDue = s.blade.checkDue + 30000 ∧ s.bladeFrame t ∧
    (∀ l ∈ s.blade.lastPulse, ∀ x ∈ s.blade.lastPeriod, x < t.now - l →
      t.blade.actual = min s.blade.actual (roundDiv 180000000 (t.now - l)).toNat ∧
      t.aux.lockEngaged = t.lockCondition) ∧
    (s.blade.lastPulse = none ∨ s.blade.lastPeriod = none ∨
      (∃ l ∈ s.blade.lastPulse, ∃ x ∈ s.blade.lastPeriod, t.now - l ≤ x) →
      t = { s with now := t.now, blade := { s.blade with checkDue := t.blade.checkDue } })) ∧
  ∀ s : State, (s.blade.lastPulse = none → exec .speedTimeout s = .next s) ∧
    ∀ l ∈ s.blade.lastPulse, ∃ t, exec .speedTimeout s = .next t ∧ t.now = max s.now (l + 9000000) ∧
      t.blade.actual = 0 ∧ t.aux.lockEngaged = t.lockCondition ∧ s.bladeFrame t

/-- The commanded level is what pattern and motion enable give (R121, R125, R126); the target level is 0 during a
change of direction and otherwise the least of commanded level, hot cap and derate ceiling (R122, R124); the up
interval is 1/3 s over a base below 600 and 1.0 s otherwise (R123). The ramp timer moves the effective level by one,
and goes on while the target is not reached, up again only after the lid-lock settle where the rise is from 0 (R123,
R128); at level 0 the effective direction takes the one asked for, a rise from 0 is remembered and starts the half of
KNEAD, and a rise can raise the window peak level (R124, R126, R130, R136). The pattern timer turns INTERVAL between
its phases (R125), the half timer turns KNEAD's direction (R126), the settle timer starts the ramp (R128), and the
rest of the blade ends BRAKING and OFF (R127). The model's choices it rests on: log entries 4, 16 and 21. -/
def Obligations.BladeTimersMoveTheBlade : Prop :=
  (∀ s : State,
    let cold := ∃ x ∈ s.thermal.tb, x < 600
    let enabled := s.safety.stopLatch = false ∧ s.safety.motionPermit.active = true ∧
      s.safety.lidClosed.active = true ∧ s.safety.lease = .live ∧ s.thermal.mains ≠ .lost
    s.thermal.upInterval = (if cold then 1000000 else 3000000) ∧
    s.targetLevel = (if ∃ d ∈ s.blade.wantDirection, d ≠ s.blade.direction then 0
      else min s.blade.commanded (min (if cold then 12 else 10) (s.budget.ceiling.getD 12))) ∧
    s.commandedLevel = (if enabled ∧ (s.run.state = .running ∨ s.run.state = .manual) then
      match s.blade.stir.pattern with
      | .interval _ _ => if s.blade.intervalOn then s.blade.stir.level else 0
      | .continuous | .knead => s.blade.stir.level
      else 0)) ∧
  (∀ s : State, (s.blade.ramp = none → exec .rampStep s = .next s) ∧
    ∀ r ∈ s.blade.ramp, ∃ t, exec .rampStep s = .next t ∧ t.now = max s.now r.deadline ∧
      t.blade.effective = (if r.up then s.blade.effective + 1 else s.blade.effective - 1) ∧
      t.blade.direction = (if t.blade.effective = 0 then s.blade.wantDirection.getD s.blade.direction
        else s.blade.direction) ∧
      t.blade.roseAt = (if r.up = true ∧ s.blade.effective = 0 then some t.now else s.blade.roseAt) ∧
      t.blade.halfTimer = (if r.up = true ∧ s.blade.effective = 0 ∧ s.blade.stir.pattern = .knead ∧
          s.blade.wantDirection = some s.blade.direction then some (s.blade.halfTimer.getD (t.now + 6000000))
        else s.blade.halfTimer) ∧
      t.budget = { s.budget with
        peak := if r.up then max s.budget.peak (s.blade.effective + 1) else s.budget.peak } ∧
      t.blade.commanded = t.commandedLevel ∧
      (t.targetLevel = t.blade.effective → t.blade.ramp = none) ∧
      (t.blade.inverter ≠ .driving → t.blade.ramp = none ∧ t.blade.settle = none) ∧
      (t.blade.inverter = .driving → t.targetLevel < t.blade.effective →
        t.blade.ramp = some ⟨false, t.now + 750000⟩ ∧ t.blade.settle = none) ∧
      (t.blade.inverter = .driving → t.blade.effective < t.targetLevel →
        if t.blade.effective = 0 ∧ (∃ l ∈ t.aux.lines, l.function = .lidLock) ∧ t.aux.lockEngaged = true ∧
            t.now < t.aux.lockedAt + 900000 then
          t.blade.ramp = none ∧ t.blade.settle = some (t.aux.lockedAt + 900000)
        else t.blade.ramp = some ⟨true, t.now + t.thermal.upInterval⟩ ∧ t.blade.settle = none) ∧
      s.bladeFrame { t with budget := s.budget }) ∧
  (∀ s : State, (s.blade.patternTimer = none → exec .intervalPhaseEnd s = .next s) ∧
    ∀ (m on off : Nat), s.blade.patternTimer = some m → s.blade.stir.pattern = .interval on off →
      ∃ t, exec .intervalPhaseEnd s = .next t ∧ t.now = max s.now m ∧
        t.blade = { s.blade with
          intervalOn := !s.blade.intervalOn
          patternTimer := some (m + 3000000 * (if s.blade.intervalOn then off else on))
          commanded := t.commandedLevel, ramp := t.blade.ramp, settle := t.blade.settle
          stallTimer := t.blade.stallTimer } ∧
        s.bladeFrame t) ∧
  (∀ s : State, (s.blade.halfTimer = none → exec .kneadHalfEnd s = .next s) ∧
    ∀ m ∈ s.blade.halfTimer, ∃ t, exec .kneadHalfEnd s = .next t ∧ t.now = max s.now m ∧
      t.blade.halfTimer = none ∧
      t.blade.wantDirection = s.blade.wantDirection.map (fun d => if d = .forward then .reverse else .forward) ∧
      t.blade.direction = (if s.blade.effective = 0 then t.blade.wantDirection.getD s.blade.direction
        else s.blade.direction) ∧
      t.blade.stir = s.blade.stir ∧ t.blade.effective = s.blade.effective ∧
      t.blade.commanded = t.commandedLevel ∧ s.bladeFrame t) ∧
  (∀ s : State,
    let waits := s.blade.inverter = .braking ∨ (s.blade.inverter = .off ∧ s.thermal.mains ≠ .lost)
    (¬ waits → exec .inverterRestWaitEnd s = .next s) ∧
    (waits → ∃ t, exec .inverterRestWaitEnd s = .next t ∧
      t.now = (s.blade.lastPulse.map fun l => max s.now (l + 1500000)).getD s.now ∧
      t.blade = { s.blade with
        inverter := .driving, commanded := t.commandedLevel, ramp := t.blade.ramp, settle := t.blade.settle
        stallTimer := t.blade.stallTimer } ∧
      s.bladeFrame t)) ∧
  ∀ s : State, (s.blade.settle = none → exec .lidLockSettleEnd s = .next s) ∧
    ∀ m ∈ s.blade.settle, ∃ t, exec .lidLockSettleEnd s = .next t ∧ t.now = max s.now m ∧
      t.blade = { s.blade with
        commanded := t.commandedLevel, ramp := t.blade.ramp, settle := t.blade.settle
        stallTimer := t.blade.stallTimer } ∧
      (s.aux.lockEngaged = true → s.aux.lockedAt + 900000 ≤ m → s.blade.ramp = none →
        s.blade.inverter = .driving → s.blade.effective = 0 → 0 < t.targetLevel →
        t.blade.settle = none ∧ t.blade.ramp = some ⟨true, t.now + t.thermal.upInterval⟩) ∧
      s.bladeFrame t

/-- A declared stall releases the inverter at effective level 0 and sends STALL; RUNNING is HELD with STALL, and
MANUAL loses its level or ends (R33, R47, R131, R132), from any state of a sound run controller (R33). The inverter
drives again at once when the blade has been at rest for 0.5 s. The model's choices it rests on: log entries 4, 19 and
26. -/
def Obligations.StallReleasesTheBlade : Prop :=
  (∀ s : State, s.blade.stallTimer = none → exec .stall s = .next s) ∧
  ∀ (s : State) (m : Nat), s.RunSound → s.blade.stallTimer = some m →
    let now := max s.now m
    let atRest := s.blade.lastPulse.all fun l => decide (l + 1500000 ≤ now)
    let s1 : State := { s with notices := s.noticesAfter .stall s.runIndex none }
    ∃ t, exec .stall s = .next t ∧ t.now = now ∧ t.blade.effective = 0 ∧ t.blade.ramp = none ∧
      t.blade.inverter = (if s.thermal.mains ≠ .lost ∧ atRest = true then .driving else .off) ∧
      (s.run.state = .running →
        t.run = { s.run with state := .held, causes := { stall := true } } ∧ t.blade.stir = .zero ∧
        t.blade.commanded = 0 ∧
        t.notices = s1.noticesAfter .held (some s.run.cursor) (some (.causes t.run.causes))) ∧
      (s.run.state = .manual → t.notices = s1.notices ∧ t.blade.stir.level = 0 ∧ t.blade.commanded = 0 ∧
        t.run = (if s.run.manualHeat.isSome then { s.run with manualLevel := 0 }
          else { s.run with
            state := if s.program.length = 0 then .idle else .ready, manualLevel := 0 })) ∧
      (s.run.state ≠ .running → s.run.state ≠ .manual → t.run = s.run ∧ t.notices = s1.notices) ∧
      s.handoverFrame t ∧
      t = { s with
        now := now, run := t.run, thermal := t.thermal, weigh := t.weigh, blade := t.blade
        notices := t.notices, aux := t.aux }

/-! ## Time of the blade's rest, the fan, the buzzer and the lamp -/

/-- A blade at commanded level 0 counts as stopped once 0.5 s have passed without a pulse, and the current kind
becomes STILL (R54); the vent fan's run-out ends in OFF (R117); the buzzer sequence goes through five phases of
200 ms and becomes IDLE (R194); and the run lamp toggles every 0.5 s in HELD (R195). The model's choices it
rests on: log entry 4. -/
def Obligations.SmallTimersRunOut : Prop :=
  (∀ s : State, exec .bladeStopped s = .next
    (if s.blade.commanded = 0 then
      { s with
        now := max s.now (s.blade.lastPulse.getD 0 + 1500000), weigh := { s.weigh with kind := .still } }
    else s)) ∧
  (∀ (s : State) (moment : Nat), s.thermal.vent = .runout moment → exec .ventFanRunoutEnd s = .next
    { s with now := max s.now moment, thermal := { s.thermal with vent := .off } }) ∧
  (∀ s : State, (∀ moment, s.thermal.vent ≠ .runout moment) → exec .ventFanRunoutEnd s = .next s) ∧
  (∀ (s : State) (b : Sounding), s.aux.buzzer = some b →
    exec .buzzerPhaseEnd s = .next
      { s with
        now := max s.now b.deadline
        aux := { s.aux with
          buzzer := if b.phase < 4 then some ⟨b.phase + 1, b.deadline + 600000⟩ else none } } ∧
    (s.aux.buzzing = true ↔ b.phase % 2 = 0)) ∧
  (∀ s : State, s.aux.buzzer = none → exec .buzzerPhaseEnd s = .next s ∧ s.aux.buzzing = false) ∧
  ∀ s : State, exec .runLampBlink s = .next
    (if s.run.state = .held then
      { s with
        now := max s.now s.aux.lampDue
        aux := { s.aux with lamp := !s.aux.lamp, lampDue := s.aux.lampDue + 1500000 } }
    else s)

end Statements
end

