-- ==== Sys2Proof/Laws/State.lean ====
section
/-! SUPPORT. The fields of the part after each plain update, true by unfolding: what an update writes, and what it
leaves. Later proofs cite these and unfold no record update. -/

namespace Sys2Proof.Machine

/-! ### after -/

@[simp] theorem State.after_now (s : State) (dt : Nat) : (s.after dt).now = s.now + Config.us dt := rfl

@[simp] theorem State.after_program (s : State) (dt : Nat) : (s.after dt).program = s.program := rfl

@[simp] theorem State.after_run (s : State) (dt : Nat) : (s.after dt).run = s.run := rfl

@[simp] theorem State.after_weigh (s : State) (dt : Nat) : (s.after dt).weigh = s.weigh := rfl

@[simp] theorem State.after_log (s : State) (dt : Nat) : (s.after dt).log = s.log := rfl

@[simp] theorem State.after_thermal (s : State) (dt : Nat) : (s.after dt).thermal = s.thermal := rfl

@[simp] theorem State.after_blade (s : State) (dt : Nat) : (s.after dt).blade = s.blade := rfl

@[simp] theorem State.after_budget (s : State) (dt : Nat) : (s.after dt).budget = s.budget := rfl

@[simp] theorem State.after_converter (s : State) (dt : Nat) : (s.after dt).converter = s.converter := rfl

@[simp] theorem State.after_safety (s : State) (dt : Nat) : (s.after dt).safety = s.safety := rfl

@[simp] theorem State.after_notices (s : State) (dt : Nat) : (s.after dt).notices = s.notices := rfl

@[simp] theorem State.after_bus (s : State) (dt : Nat) : (s.after dt).bus = s.bus := rfl

@[simp] theorem State.after_aux (s : State) (dt : Nat) : (s.after dt).aux = s.aux := rfl

@[simp] theorem State.after_pending (s : State) (dt : Nat) : (s.after dt).pending = s.pending := rfl

/-! ### reach -/

@[simp] theorem State.reach_now (s : State) (moment : Nat) : (s.reach moment).now = max s.now moment := rfl

@[simp] theorem State.reach_program (s : State) (moment : Nat) : (s.reach moment).program = s.program := rfl

@[simp] theorem State.reach_run (s : State) (moment : Nat) : (s.reach moment).run = s.run := rfl

@[simp] theorem State.reach_weigh (s : State) (moment : Nat) : (s.reach moment).weigh = s.weigh := rfl

@[simp] theorem State.reach_log (s : State) (moment : Nat) : (s.reach moment).log = s.log := rfl

@[simp] theorem State.reach_thermal (s : State) (moment : Nat) : (s.reach moment).thermal = s.thermal := rfl

@[simp] theorem State.reach_blade (s : State) (moment : Nat) : (s.reach moment).blade = s.blade := rfl

@[simp] theorem State.reach_budget (s : State) (moment : Nat) : (s.reach moment).budget = s.budget := rfl

@[simp] theorem State.reach_converter (s : State) (moment : Nat) : (s.reach moment).converter = s.converter := rfl

@[simp] theorem State.reach_safety (s : State) (moment : Nat) : (s.reach moment).safety = s.safety := rfl

@[simp] theorem State.reach_notices (s : State) (moment : Nat) : (s.reach moment).notices = s.notices := rfl

@[simp] theorem State.reach_bus (s : State) (moment : Nat) : (s.reach moment).bus = s.bus := rfl

@[simp] theorem State.reach_aux (s : State) (moment : Nat) : (s.reach moment).aux = s.aux := rfl

@[simp] theorem State.reach_pending (s : State) (moment : Nat) : (s.reach moment).pending = s.pending := rfl

/-! ### send -/

@[simp] theorem State.send_now (s : State) (kind : NoticeKind) (index : Option Nat) (value : Option NoticeValue) : (s.send kind index value).now = s.now := rfl

@[simp] theorem State.send_program (s : State) (kind : NoticeKind) (index : Option Nat) (value : Option NoticeValue) : (s.send kind index value).program = s.program := rfl

@[simp] theorem State.send_run (s : State) (kind : NoticeKind) (index : Option Nat) (value : Option NoticeValue) : (s.send kind index value).run = s.run := rfl

@[simp] theorem State.send_weigh (s : State) (kind : NoticeKind) (index : Option Nat) (value : Option NoticeValue) : (s.send kind index value).weigh = s.weigh := rfl

@[simp] theorem State.send_log (s : State) (kind : NoticeKind) (index : Option Nat) (value : Option NoticeValue) : (s.send kind index value).log = s.log := rfl

@[simp] theorem State.send_thermal (s : State) (kind : NoticeKind) (index : Option Nat) (value : Option NoticeValue) : (s.send kind index value).thermal = s.thermal := rfl

@[simp] theorem State.send_blade (s : State) (kind : NoticeKind) (index : Option Nat) (value : Option NoticeValue) : (s.send kind index value).blade = s.blade := rfl

@[simp] theorem State.send_budget (s : State) (kind : NoticeKind) (index : Option Nat) (value : Option NoticeValue) : (s.send kind index value).budget = s.budget := rfl

@[simp] theorem State.send_converter (s : State) (kind : NoticeKind) (index : Option Nat) (value : Option NoticeValue) : (s.send kind index value).converter = s.converter := rfl

@[simp] theorem State.send_safety (s : State) (kind : NoticeKind) (index : Option Nat) (value : Option NoticeValue) : (s.send kind index value).safety = s.safety := rfl

@[simp] theorem State.send_notices (s : State) (kind : NoticeKind) (index : Option Nat) (value : Option NoticeValue) : (s.send kind index value).notices = s.noticesAfter kind index value := rfl

@[simp] theorem State.send_bus (s : State) (kind : NoticeKind) (index : Option Nat) (value : Option NoticeValue) : (s.send kind index value).bus = s.bus := rfl

@[simp] theorem State.send_aux (s : State) (kind : NoticeKind) (index : Option Nat) (value : Option NoticeValue) : (s.send kind index value).aux = s.aux := rfl

@[simp] theorem State.send_pending (s : State) (kind : NoticeKind) (index : Option Nat) (value : Option NoticeValue) : (s.send kind index value).pending = s.pending := rfl

/-! ### editResult -/

@[simp] theorem State.editResult_now (s : State) (f : StepResult → StepResult) : (s.editResult f).now = s.now := rfl

@[simp] theorem State.editResult_program (s : State) (f : StepResult → StepResult) : (s.editResult f).program = s.program.editResult s.run.cursor f := rfl

@[simp] theorem State.editResult_run (s : State) (f : StepResult → StepResult) : (s.editResult f).run = s.run := rfl

@[simp] theorem State.editResult_weigh (s : State) (f : StepResult → StepResult) : (s.editResult f).weigh = s.weigh := rfl

@[simp] theorem State.editResult_log (s : State) (f : StepResult → StepResult) : (s.editResult f).log = s.log := rfl

@[simp] theorem State.editResult_thermal (s : State) (f : StepResult → StepResult) : (s.editResult f).thermal = s.thermal := rfl

@[simp] theorem State.editResult_blade (s : State) (f : StepResult → StepResult) : (s.editResult f).blade = s.blade := rfl

@[simp] theorem State.editResult_budget (s : State) (f : StepResult → StepResult) : (s.editResult f).budget = s.budget := rfl

@[simp] theorem State.editResult_converter (s : State) (f : StepResult → StepResult) : (s.editResult f).converter = s.converter := rfl

@[simp] theorem State.editResult_safety (s : State) (f : StepResult → StepResult) : (s.editResult f).safety = s.safety := rfl

@[simp] theorem State.editResult_notices (s : State) (f : StepResult → StepResult) : (s.editResult f).notices = s.notices := rfl

@[simp] theorem State.editResult_bus (s : State) (f : StepResult → StepResult) : (s.editResult f).bus = s.bus := rfl

@[simp] theorem State.editResult_aux (s : State) (f : StepResult → StepResult) : (s.editResult f).aux = s.aux := rfl

@[simp] theorem State.editResult_pending (s : State) (f : StepResult → StepResult) : (s.editResult f).pending = s.pending := rfl

/-! ### recordReply -/

@[simp] theorem State.recordReply_now (s : State) (p : Port) (code : Option Byte) (r : Reply) : (s.recordReply p code r).now = s.now := rfl

@[simp] theorem State.recordReply_program (s : State) (p : Port) (code : Option Byte) (r : Reply) : (s.recordReply p code r).program = s.program := rfl

@[simp] theorem State.recordReply_run (s : State) (p : Port) (code : Option Byte) (r : Reply) : (s.recordReply p code r).run = s.run := rfl

@[simp] theorem State.recordReply_weigh (s : State) (p : Port) (code : Option Byte) (r : Reply) : (s.recordReply p code r).weigh = s.weigh := rfl

@[simp] theorem State.recordReply_log (s : State) (p : Port) (code : Option Byte) (r : Reply) : (s.recordReply p code r).log = s.log := rfl

@[simp] theorem State.recordReply_thermal (s : State) (p : Port) (code : Option Byte) (r : Reply) : (s.recordReply p code r).thermal = s.thermal := rfl

@[simp] theorem State.recordReply_blade (s : State) (p : Port) (code : Option Byte) (r : Reply) : (s.recordReply p code r).blade = s.blade := rfl

@[simp] theorem State.recordReply_budget (s : State) (p : Port) (code : Option Byte) (r : Reply) : (s.recordReply p code r).budget = s.budget := rfl

@[simp] theorem State.recordReply_converter (s : State) (p : Port) (code : Option Byte) (r : Reply) : (s.recordReply p code r).converter = s.converter := rfl

@[simp] theorem State.recordReply_safety (s : State) (p : Port) (code : Option Byte) (r : Reply) : (s.recordReply p code r).safety = s.safety := rfl

@[simp] theorem State.recordReply_notices (s : State) (p : Port) (code : Option Byte) (r : Reply) : (s.recordReply p code r).notices = s.notices := rfl

@[simp] theorem State.recordReply_bus (s : State) (p : Port) (code : Option Byte) (r : Reply) : (s.recordReply p code r).bus = { s.bus with slots := s.bus.slots.set p ⟨code, some r.result, r.data⟩ } := rfl

@[simp] theorem State.recordReply_aux (s : State) (p : Port) (code : Option Byte) (r : Reply) : (s.recordReply p code r).aux = s.aux := rfl

@[simp] theorem State.recordReply_pending (s : State) (p : Port) (code : Option Byte) (r : Reply) : (s.recordReply p code r).pending = s.pending := rfl

/-! ### setStaging -/

@[simp] theorem State.setStaging_now (s : State) (v : Option (Port × List RawPoint)) : (s.setStaging v).now = s.now := rfl

@[simp] theorem State.setStaging_program (s : State) (v : Option (Port × List RawPoint)) : (s.setStaging v).program = s.program := rfl

@[simp] theorem State.setStaging_run (s : State) (v : Option (Port × List RawPoint)) : (s.setStaging v).run = s.run := rfl

@[simp] theorem State.setStaging_weigh (s : State) (v : Option (Port × List RawPoint)) : (s.setStaging v).weigh = s.weigh := rfl

@[simp] theorem State.setStaging_log (s : State) (v : Option (Port × List RawPoint)) : (s.setStaging v).log = s.log := rfl

@[simp] theorem State.setStaging_thermal (s : State) (v : Option (Port × List RawPoint)) : (s.setStaging v).thermal = s.thermal := rfl

@[simp] theorem State.setStaging_blade (s : State) (v : Option (Port × List RawPoint)) : (s.setStaging v).blade = s.blade := rfl

@[simp] theorem State.setStaging_budget (s : State) (v : Option (Port × List RawPoint)) : (s.setStaging v).budget = s.budget := rfl

@[simp] theorem State.setStaging_converter (s : State) (v : Option (Port × List RawPoint)) : (s.setStaging v).converter = s.converter := rfl

@[simp] theorem State.setStaging_safety (s : State) (v : Option (Port × List RawPoint)) : (s.setStaging v).safety = s.safety := rfl

@[simp] theorem State.setStaging_notices (s : State) (v : Option (Port × List RawPoint)) : (s.setStaging v).notices = s.notices := rfl

@[simp] theorem State.setStaging_bus (s : State) (v : Option (Port × List RawPoint)) : (s.setStaging v).bus = { s.bus with staging := v } := rfl

@[simp] theorem State.setStaging_aux (s : State) (v : Option (Port × List RawPoint)) : (s.setStaging v).aux = s.aux := rfl

@[simp] theorem State.setStaging_pending (s : State) (v : Option (Port × List RawPoint)) : (s.setStaging v).pending = s.pending := rfl

/-! ### setCauses -/

@[simp] theorem State.setCauses_now (s : State) (c : CauseSet) : (s.setCauses c).now = s.now := rfl

@[simp] theorem State.setCauses_program (s : State) (c : CauseSet) : (s.setCauses c).program = s.program := rfl

@[simp] theorem State.setCauses_run (s : State) (c : CauseSet) : (s.setCauses c).run = { s.run with causes := c } := rfl

@[simp] theorem State.setCauses_weigh (s : State) (c : CauseSet) : (s.setCauses c).weigh = s.weigh := rfl

@[simp] theorem State.setCauses_log (s : State) (c : CauseSet) : (s.setCauses c).log = s.log := rfl

@[simp] theorem State.setCauses_thermal (s : State) (c : CauseSet) : (s.setCauses c).thermal = s.thermal := rfl

@[simp] theorem State.setCauses_blade (s : State) (c : CauseSet) : (s.setCauses c).blade = s.blade := rfl

@[simp] theorem State.setCauses_budget (s : State) (c : CauseSet) : (s.setCauses c).budget = s.budget := rfl

@[simp] theorem State.setCauses_converter (s : State) (c : CauseSet) : (s.setCauses c).converter = s.converter := rfl

@[simp] theorem State.setCauses_safety (s : State) (c : CauseSet) : (s.setCauses c).safety = s.safety := rfl

@[simp] theorem State.setCauses_notices (s : State) (c : CauseSet) : (s.setCauses c).notices = s.notices := rfl

@[simp] theorem State.setCauses_bus (s : State) (c : CauseSet) : (s.setCauses c).bus = s.bus := rfl

@[simp] theorem State.setCauses_aux (s : State) (c : CauseSet) : (s.setCauses c).aux = s.aux := rfl

@[simp] theorem State.setCauses_pending (s : State) (c : CauseSet) : (s.setCauses c).pending = s.pending := rfl

/-! ### setPhase -/

@[simp] theorem State.setPhase_now (s : State) (p : Phase) : (s.setPhase p).now = s.now := rfl

@[simp] theorem State.setPhase_program (s : State) (p : Phase) : (s.setPhase p).program = s.program := rfl

@[simp] theorem State.setPhase_run (s : State) (p : Phase) : (s.setPhase p).run = { s.run with phase := p } := rfl

@[simp] theorem State.setPhase_weigh (s : State) (p : Phase) : (s.setPhase p).weigh = s.weigh := rfl

@[simp] theorem State.setPhase_log (s : State) (p : Phase) : (s.setPhase p).log = s.log := rfl

@[simp] theorem State.setPhase_thermal (s : State) (p : Phase) : (s.setPhase p).thermal = s.thermal := rfl

@[simp] theorem State.setPhase_blade (s : State) (p : Phase) : (s.setPhase p).blade = s.blade := rfl

@[simp] theorem State.setPhase_budget (s : State) (p : Phase) : (s.setPhase p).budget = s.budget := rfl

@[simp] theorem State.setPhase_converter (s : State) (p : Phase) : (s.setPhase p).converter = s.converter := rfl

@[simp] theorem State.setPhase_safety (s : State) (p : Phase) : (s.setPhase p).safety = s.safety := rfl

@[simp] theorem State.setPhase_notices (s : State) (p : Phase) : (s.setPhase p).notices = s.notices := rfl

@[simp] theorem State.setPhase_bus (s : State) (p : Phase) : (s.setPhase p).bus = s.bus := rfl

@[simp] theorem State.setPhase_aux (s : State) (p : Phase) : (s.setPhase p).aux = s.aux := rfl

@[simp] theorem State.setPhase_pending (s : State) (p : Phase) : (s.setPhase p).pending = s.pending := rfl

/-! ### clearManual -/

@[simp] theorem State.clearManual_now (s : State) : s.clearManual.now = s.now := rfl

@[simp] theorem State.clearManual_program (s : State) : s.clearManual.program = s.program := rfl

@[simp] theorem State.clearManual_run (s : State) : s.clearManual.run = { s.run with manualLevel := 0, manualHeat := none } := rfl

@[simp] theorem State.clearManual_weigh (s : State) : s.clearManual.weigh = s.weigh := rfl

@[simp] theorem State.clearManual_log (s : State) : s.clearManual.log = s.log := rfl

@[simp] theorem State.clearManual_thermal (s : State) : s.clearManual.thermal = s.thermal := rfl

@[simp] theorem State.clearManual_blade (s : State) : s.clearManual.blade = s.blade := rfl

@[simp] theorem State.clearManual_budget (s : State) : s.clearManual.budget = s.budget := rfl

@[simp] theorem State.clearManual_converter (s : State) : s.clearManual.converter = s.converter := rfl

@[simp] theorem State.clearManual_safety (s : State) : s.clearManual.safety = s.safety := rfl

@[simp] theorem State.clearManual_notices (s : State) : s.clearManual.notices = s.notices := rfl

@[simp] theorem State.clearManual_bus (s : State) : s.clearManual.bus = s.bus := rfl

@[simp] theorem State.clearManual_aux (s : State) : s.clearManual.aux = s.aux := rfl

@[simp] theorem State.clearManual_pending (s : State) : s.clearManual.pending = s.pending := rfl

/-! ### closeLog -/

@[simp] theorem State.closeLog_now (s : State) : s.closeLog.now = s.now := rfl

@[simp] theorem State.closeLog_program (s : State) : s.closeLog.program = s.program := rfl

@[simp] theorem State.closeLog_run (s : State) : s.closeLog.run = s.run := rfl

@[simp] theorem State.closeLog_weigh (s : State) : s.closeLog.weigh = s.weigh := rfl

@[simp] theorem State.closeLog_log (s : State) : s.closeLog.log = { s.log with isOpen := false } := rfl

@[simp] theorem State.closeLog_thermal (s : State) : s.closeLog.thermal = s.thermal := rfl

@[simp] theorem State.closeLog_blade (s : State) : s.closeLog.blade = s.blade := rfl

@[simp] theorem State.closeLog_budget (s : State) : s.closeLog.budget = s.budget := rfl

@[simp] theorem State.closeLog_converter (s : State) : s.closeLog.converter = s.converter := rfl

@[simp] theorem State.closeLog_safety (s : State) : s.closeLog.safety = s.safety := rfl

@[simp] theorem State.closeLog_notices (s : State) : s.closeLog.notices = s.notices := rfl

@[simp] theorem State.closeLog_bus (s : State) : s.closeLog.bus = s.bus := rfl

@[simp] theorem State.closeLog_aux (s : State) : s.closeLog.aux = s.aux := rfl

@[simp] theorem State.closeLog_pending (s : State) : s.closeLog.pending = s.pending := rfl

/-! ### updateKind -/

@[simp] theorem State.updateKind_now (s : State) : s.updateKind.now = s.now := rfl

@[simp] theorem State.updateKind_program (s : State) : s.updateKind.program = s.program := rfl

@[simp] theorem State.updateKind_run (s : State) : s.updateKind.run = s.run := rfl

@[simp] theorem State.updateKind_weigh (s : State) : s.updateKind.weigh = { s.weigh with kind := s.kindNow } := rfl

@[simp] theorem State.updateKind_log (s : State) : s.updateKind.log = s.log := rfl

@[simp] theorem State.updateKind_thermal (s : State) : s.updateKind.thermal = s.thermal := rfl

@[simp] theorem State.updateKind_blade (s : State) : s.updateKind.blade = s.blade := rfl

@[simp] theorem State.updateKind_budget (s : State) : s.updateKind.budget = s.budget := rfl

@[simp] theorem State.updateKind_converter (s : State) : s.updateKind.converter = s.converter := rfl

@[simp] theorem State.updateKind_safety (s : State) : s.updateKind.safety = s.safety := rfl

@[simp] theorem State.updateKind_notices (s : State) : s.updateKind.notices = s.notices := rfl

@[simp] theorem State.updateKind_bus (s : State) : s.updateKind.bus = s.bus := rfl

@[simp] theorem State.updateKind_aux (s : State) : s.updateKind.aux = s.aux := rfl

@[simp] theorem State.updateKind_pending (s : State) : s.updateKind.pending = s.pending := rfl

/-! ### arbitrate -/

@[simp] theorem State.arbitrate_now (s : State) : s.arbitrate.now = s.now := rfl

@[simp] theorem State.arbitrate_program (s : State) : s.arbitrate.program = s.program := rfl

@[simp] theorem State.arbitrate_run (s : State) : s.arbitrate.run = s.run := rfl

@[simp] theorem State.arbitrate_weigh (s : State) : s.arbitrate.weigh = s.weigh := rfl

@[simp] theorem State.arbitrate_log (s : State) : s.arbitrate.log = s.log := rfl

@[simp] theorem State.arbitrate_thermal (s : State) : s.arbitrate.thermal = s.thermal := rfl

@[simp] theorem State.arbitrate_blade (s : State) : s.arbitrate.blade = s.blade := rfl

@[simp] theorem State.arbitrate_budget (s : State) : s.arbitrate.budget = s.budget := rfl

@[simp] theorem State.arbitrate_converter (s : State) : s.arbitrate.converter = s.converter.choose s.now := rfl

@[simp] theorem State.arbitrate_safety (s : State) : s.arbitrate.safety = s.safety := rfl

@[simp] theorem State.arbitrate_notices (s : State) : s.arbitrate.notices = s.notices := rfl

@[simp] theorem State.arbitrate_bus (s : State) : s.arbitrate.bus = s.bus := rfl

@[simp] theorem State.arbitrate_aux (s : State) : s.arbitrate.aux = s.aux := rfl

@[simp] theorem State.arbitrate_pending (s : State) : s.arbitrate.pending = s.pending := rfl

/-! ### request -/

@[simp] theorem State.request_now (s : State) (place : Converter → Converter) : (s.request place).now = s.now := rfl

@[simp] theorem State.request_program (s : State) (place : Converter → Converter) : (s.request place).program = s.program := rfl

@[simp] theorem State.request_run (s : State) (place : Converter → Converter) : (s.request place).run = s.run := rfl

@[simp] theorem State.request_weigh (s : State) (place : Converter → Converter) : (s.request place).weigh = s.weigh := rfl

@[simp] theorem State.request_log (s : State) (place : Converter → Converter) : (s.request place).log = s.log := rfl

@[simp] theorem State.request_thermal (s : State) (place : Converter → Converter) : (s.request place).thermal = s.thermal := rfl

@[simp] theorem State.request_blade (s : State) (place : Converter → Converter) : (s.request place).blade = s.blade := rfl

@[simp] theorem State.request_budget (s : State) (place : Converter → Converter) : (s.request place).budget = s.budget := rfl

@[simp] theorem State.request_converter (s : State) (place : Converter → Converter) : (s.request place).converter = (place (s.converter.recall s.now)).arrive s.now := rfl

@[simp] theorem State.request_safety (s : State) (place : Converter → Converter) : (s.request place).safety = s.safety := rfl

@[simp] theorem State.request_notices (s : State) (place : Converter → Converter) : (s.request place).notices = s.notices := rfl

@[simp] theorem State.request_bus (s : State) (place : Converter → Converter) : (s.request place).bus = s.bus := rfl

@[simp] theorem State.request_aux (s : State) (place : Converter → Converter) : (s.request place).aux = s.aux := rfl

@[simp] theorem State.request_pending (s : State) (place : Converter → Converter) : (s.request place).pending = s.pending := rfl

/-! ### updateRamp -/

@[simp] theorem State.updateRamp_now (s : State) : s.updateRamp.now = s.now := rfl

@[simp] theorem State.updateRamp_program (s : State) : s.updateRamp.program = s.program := rfl

@[simp] theorem State.updateRamp_run (s : State) : s.updateRamp.run = s.run := rfl

@[simp] theorem State.updateRamp_weigh (s : State) : s.updateRamp.weigh = s.weigh := rfl

@[simp] theorem State.updateRamp_log (s : State) : s.updateRamp.log = s.log := rfl

@[simp] theorem State.updateRamp_thermal (s : State) : s.updateRamp.thermal = s.thermal := rfl

@[simp] theorem State.updateRamp_blade (s : State) : s.updateRamp.blade = { s.blade with ramp := s.rampNow.1, settle := s.rampNow.2 } := rfl

@[simp] theorem State.updateRamp_budget (s : State) : s.updateRamp.budget = s.budget := rfl

@[simp] theorem State.updateRamp_converter (s : State) : s.updateRamp.converter = s.converter := rfl

@[simp] theorem State.updateRamp_safety (s : State) : s.updateRamp.safety = s.safety := rfl

@[simp] theorem State.updateRamp_notices (s : State) : s.updateRamp.notices = s.notices := rfl

@[simp] theorem State.updateRamp_bus (s : State) : s.updateRamp.bus = s.bus := rfl

@[simp] theorem State.updateRamp_aux (s : State) : s.updateRamp.aux = s.aux := rfl

@[simp] theorem State.updateRamp_pending (s : State) : s.updateRamp.pending = s.pending := rfl

/-! ### loadLease -/

@[simp] theorem State.loadLease_now (s : State) (period : Nat) : (s.loadLease period).now = s.now := rfl

@[simp] theorem State.loadLease_program (s : State) (period : Nat) : (s.loadLease period).program = s.program := rfl

@[simp] theorem State.loadLease_run (s : State) (period : Nat) : (s.loadLease period).run = s.run := rfl

@[simp] theorem State.loadLease_weigh (s : State) (period : Nat) : (s.loadLease period).weigh = s.weigh := rfl

@[simp] theorem State.loadLease_log (s : State) (period : Nat) : (s.loadLease period).log = s.log := rfl

@[simp] theorem State.loadLease_thermal (s : State) (period : Nat) : (s.loadLease period).thermal = s.thermal := rfl

@[simp] theorem State.loadLease_blade (s : State) (period : Nat) : (s.loadLease period).blade = s.blade := rfl

@[simp] theorem State.loadLease_budget (s : State) (period : Nat) : (s.loadLease period).budget = s.budget := rfl

@[simp] theorem State.loadLease_converter (s : State) (period : Nat) : (s.loadLease period).converter = s.converter := rfl

@[simp] theorem State.loadLease_safety (s : State) (period : Nat) : (s.loadLease period).safety = { s.safety with count := period, leaseDue := s.now + leaseTime } := rfl

@[simp] theorem State.loadLease_notices (s : State) (period : Nat) : (s.loadLease period).notices = s.notices := rfl

@[simp] theorem State.loadLease_bus (s : State) (period : Nat) : (s.loadLease period).bus = s.bus := rfl

@[simp] theorem State.loadLease_aux (s : State) (period : Nat) : (s.loadLease period).aux = s.aux := rfl

@[simp] theorem State.loadLease_pending (s : State) (period : Nat) : (s.loadLease period).pending = s.pending := rfl

/-! ### setRunState -/

@[simp] theorem State.setRunState_now (s : State) (r : RunState) : (s.setRunState r).now = s.now := rfl

@[simp] theorem State.setRunState_program (s : State) (r : RunState) : (s.setRunState r).program = s.program := rfl

@[simp] theorem State.setRunState_run (s : State) (r : RunState) : (s.setRunState r).run = { s.run with state := r } := rfl

@[simp] theorem State.setRunState_weigh (s : State) (r : RunState) : (s.setRunState r).weigh = s.weigh := rfl

@[simp] theorem State.setRunState_log (s : State) (r : RunState) : (s.setRunState r).log = s.log := rfl

@[simp] theorem State.setRunState_thermal (s : State) (r : RunState) : (s.setRunState r).thermal = s.thermal := rfl

@[simp] theorem State.setRunState_blade (s : State) (r : RunState) : (s.setRunState r).blade = s.blade := rfl

@[simp] theorem State.setRunState_budget (s : State) (r : RunState) : (s.setRunState r).budget = s.budget := rfl

@[simp] theorem State.setRunState_converter (s : State) (r : RunState) : (s.setRunState r).converter = s.converter := rfl

@[simp] theorem State.setRunState_safety (s : State) (r : RunState) : (s.setRunState r).safety = s.safety := rfl

@[simp] theorem State.setRunState_notices (s : State) (r : RunState) : (s.setRunState r).notices = s.notices := rfl

@[simp] theorem State.setRunState_bus (s : State) (r : RunState) : (s.setRunState r).bus = s.bus := rfl

@[simp] theorem State.setRunState_pending (s : State) (r : RunState) : (s.setRunState r).pending = s.pending := rfl

/-! ### one value per port -/

@[simp] theorem PerPort.get_set_self {α : Type} (v : PerPort α) (p : Port) (x : α) : (v.set p x).get p = x := by
  cases p <;> rfl

theorem PerPort.get_set_of_ne {α : Type} (v : PerPort α) (p q : Port) (x : α) (h : q ≠ p) :
    (v.set p x).get q = v.get q := by
  cases p <;> cases q <;> first | rfl | exact absurd rfl h

@[simp] theorem PerPort.get_map {α : Type} (f : α → α) (v : PerPort α) (p : Port) :
    (v.map f).get p = f (v.get p) := by
  cases p <;> rfl

end Sys2Proof.Machine
end

