-- ==== Sys2Proof/Laws/Frames.lean ====
section
/-! SUPPORT. The frame of each shared operation: the fields of the part that it leaves as they are, in one lemma
each. Later proofs cite these and do not unfold the operation. -/

namespace Sys2Proof.Machine

@[simp] theorem State.updateVent_frame (s : State) :
    s.updateVent.now = s.now ∧ s.updateVent.program = s.program ∧ s.updateVent.run = s.run ∧
    s.updateVent.weigh = s.weigh ∧ s.updateVent.log = s.log ∧ s.updateVent.blade = s.blade ∧
    s.updateVent.budget = s.budget ∧ s.updateVent.converter = s.converter ∧ s.updateVent.safety = s.safety ∧
    s.updateVent.notices = s.notices ∧ s.updateVent.bus = s.bus ∧ s.updateVent.aux = s.aux ∧
    s.updateVent.pending = s.pending := by
  simp [State.updateVent]

@[simp] theorem State.cutGrant_frame (s : State) :
    s.cutGrant.now = s.now ∧ s.cutGrant.program = s.program ∧ s.cutGrant.run = s.run ∧
    s.cutGrant.weigh = s.weigh ∧ s.cutGrant.log = s.log ∧ s.cutGrant.blade = s.blade ∧
    s.cutGrant.budget = s.budget ∧ s.cutGrant.converter = s.converter ∧ s.cutGrant.safety = s.safety ∧
    s.cutGrant.notices = s.notices ∧ s.cutGrant.bus = s.bus ∧ s.cutGrant.aux = s.aux ∧
    s.cutGrant.pending = s.pending := by
  simp [State.cutGrant]

@[simp] theorem State.handHeat_frame (s : State) :
    s.handHeat.now = s.now ∧ s.handHeat.program = s.program ∧ s.handHeat.run = s.run ∧
    s.handHeat.weigh = s.weigh ∧ s.handHeat.log = s.log ∧ s.handHeat.blade = s.blade ∧
    s.handHeat.budget = s.budget ∧ s.handHeat.converter = s.converter ∧ s.handHeat.safety = s.safety ∧
    s.handHeat.notices = s.notices ∧ s.handHeat.bus = s.bus ∧ s.handHeat.aux = s.aux ∧
    s.handHeat.pending = s.pending := by
  simp only [State.handHeat]
  repeat' split
  all_goals simp

@[simp] theorem State.requestTare_frame (s : State) :
    s.requestTare.now = s.now ∧ s.requestTare.program = s.program ∧ s.requestTare.run = s.run ∧
    s.requestTare.log = s.log ∧ s.requestTare.thermal = s.thermal ∧ s.requestTare.blade = s.blade ∧
    s.requestTare.budget = s.budget ∧ s.requestTare.converter = s.converter ∧ s.requestTare.safety = s.safety ∧
    s.requestTare.notices = s.notices ∧ s.requestTare.bus = s.bus ∧ s.requestTare.aux = s.aux ∧
    s.requestTare.pending = s.pending := by
  simp only [State.requestTare]
  repeat' split
  all_goals simp

@[simp] theorem State.startBuzzer_frame (s : State) :
    s.startBuzzer.now = s.now ∧ s.startBuzzer.program = s.program ∧ s.startBuzzer.run = s.run ∧
    s.startBuzzer.weigh = s.weigh ∧ s.startBuzzer.log = s.log ∧ s.startBuzzer.thermal = s.thermal ∧
    s.startBuzzer.blade = s.blade ∧ s.startBuzzer.budget = s.budget ∧ s.startBuzzer.converter = s.converter ∧
    s.startBuzzer.safety = s.safety ∧ s.startBuzzer.notices = s.notices ∧ s.startBuzzer.bus = s.bus ∧
    s.startBuzzer.pending = s.pending := by
  simp [State.startBuzzer]

@[simp] theorem State.notePeak_frame (s : State) :
    s.notePeak.now = s.now ∧ s.notePeak.run = s.run ∧ s.notePeak.weigh = s.weigh ∧ s.notePeak.log = s.log ∧
    s.notePeak.thermal = s.thermal ∧ s.notePeak.blade = s.blade ∧ s.notePeak.budget = s.budget ∧
    s.notePeak.converter = s.converter ∧ s.notePeak.safety = s.safety ∧ s.notePeak.notices = s.notices ∧
    s.notePeak.bus = s.bus ∧ s.notePeak.aux = s.aux ∧ s.notePeak.pending = s.pending := by
  simp only [State.notePeak]
  repeat' split
  all_goals simp

@[simp] theorem State.trigger_frame (s : State) :
    s.trigger.now = s.now ∧ s.trigger.program = s.program ∧ s.trigger.run = s.run ∧ s.trigger.log = s.log ∧
    s.trigger.thermal = s.thermal ∧ s.trigger.blade = s.blade ∧ s.trigger.budget = s.budget ∧
    s.trigger.safety = s.safety ∧ s.trigger.notices = s.notices ∧ s.trigger.bus = s.bus ∧
    s.trigger.aux = s.aux ∧ s.trigger.pending = s.pending := by
  simp only [State.trigger]
  repeat' split
  all_goals simp

@[simp] theorem State.requestMains_frame (s : State) :
    s.requestMains.now = s.now ∧ s.requestMains.program = s.program ∧ s.requestMains.run = s.run ∧
    s.requestMains.weigh = s.weigh ∧ s.requestMains.log = s.log ∧ s.requestMains.thermal = s.thermal ∧
    s.requestMains.blade = s.blade ∧ s.requestMains.budget = s.budget ∧ s.requestMains.safety = s.safety ∧
    s.requestMains.notices = s.notices ∧ s.requestMains.bus = s.bus ∧ s.requestMains.aux = s.aux ∧
    s.requestMains.pending = s.pending := by
  simp [State.requestMains]

@[simp] theorem State.updateCommanded_frame (s : State) :
    s.updateCommanded.now = s.now ∧ s.updateCommanded.program = s.program ∧ s.updateCommanded.run = s.run ∧
    s.updateCommanded.log = s.log ∧ s.updateCommanded.thermal = s.thermal ∧
    s.updateCommanded.budget = s.budget ∧ s.updateCommanded.converter = s.converter ∧
    s.updateCommanded.safety = s.safety ∧ s.updateCommanded.notices = s.notices ∧
    s.updateCommanded.bus = s.bus ∧ s.updateCommanded.aux = s.aux ∧ s.updateCommanded.pending = s.pending := by
  simp only [State.updateCommanded]
  repeat' split
  all_goals simp

@[simp] theorem State.updateLock_frame (s : State) :
    s.updateLock.now = s.now ∧ s.updateLock.program = s.program ∧ s.updateLock.run = s.run ∧
    s.updateLock.weigh = s.weigh ∧ s.updateLock.log = s.log ∧ s.updateLock.thermal = s.thermal ∧
    s.updateLock.blade = s.blade ∧ s.updateLock.budget = s.budget ∧ s.updateLock.converter = s.converter ∧
    s.updateLock.safety = s.safety ∧ s.updateLock.notices = s.notices ∧ s.updateLock.bus = s.bus ∧
    s.updateLock.pending = s.pending := by
  simp only [State.updateLock]
  repeat' split
  all_goals simp

@[simp] theorem State.updateStall_frame (s : State) :
    s.updateStall.now = s.now ∧ s.updateStall.program = s.program ∧ s.updateStall.run = s.run ∧
    s.updateStall.weigh = s.weigh ∧ s.updateStall.log = s.log ∧ s.updateStall.thermal = s.thermal ∧
    s.updateStall.budget = s.budget ∧ s.updateStall.converter = s.converter ∧ s.updateStall.safety = s.safety ∧
    s.updateStall.notices = s.notices ∧ s.updateStall.bus = s.bus ∧ s.updateStall.aux = s.aux ∧
    s.updateStall.pending = s.pending := by
  simp [State.updateStall]

@[simp] theorem State.takeDirection_frame (s : State) :
    s.takeDirection.now = s.now ∧ s.takeDirection.program = s.program ∧ s.takeDirection.run = s.run ∧
    s.takeDirection.weigh = s.weigh ∧ s.takeDirection.log = s.log ∧ s.takeDirection.thermal = s.thermal ∧
    s.takeDirection.budget = s.budget ∧ s.takeDirection.converter = s.converter ∧
    s.takeDirection.safety = s.safety ∧ s.takeDirection.notices = s.notices ∧ s.takeDirection.bus = s.bus ∧
    s.takeDirection.aux = s.aux ∧ s.takeDirection.pending = s.pending := by
  simp only [State.takeDirection]
  repeat' split
  all_goals simp

@[simp] theorem State.updateBlade_frame (s : State) :
    s.updateBlade.now = s.now ∧ s.updateBlade.program = s.program ∧ s.updateBlade.run = s.run ∧
    s.updateBlade.log = s.log ∧ s.updateBlade.thermal = s.thermal ∧ s.updateBlade.budget = s.budget ∧
    s.updateBlade.converter = s.converter ∧ s.updateBlade.safety = s.safety ∧
    s.updateBlade.notices = s.notices ∧ s.updateBlade.bus = s.bus ∧ s.updateBlade.pending = s.pending := by
  simp [State.updateBlade]

@[simp] theorem State.handStir_frame (s : State) (p : StirPoint) :
    (s.handStir p).now = s.now ∧ (s.handStir p).program = s.program ∧ (s.handStir p).run = s.run ∧
    (s.handStir p).log = s.log ∧ (s.handStir p).thermal = s.thermal ∧ (s.handStir p).budget = s.budget ∧
    (s.handStir p).converter = s.converter ∧ (s.handStir p).safety = s.safety ∧
    (s.handStir p).notices = s.notices ∧ (s.handStir p).bus = s.bus ∧ (s.handStir p).pending = s.pending := by
  simp [State.handStir]

@[simp] theorem State.endRest_frame (s : State) :
    s.endRest.now = s.now ∧ s.endRest.program = s.program ∧ s.endRest.run = s.run ∧ s.endRest.log = s.log ∧
    s.endRest.thermal = s.thermal ∧ s.endRest.budget = s.budget ∧ s.endRest.converter = s.converter ∧
    s.endRest.safety = s.safety ∧ s.endRest.notices = s.notices ∧ s.endRest.bus = s.bus ∧
    s.endRest.pending = s.pending := by
  simp only [State.endRest]
  repeat' split
  all_goals simp

@[simp] theorem State.brake_frame (s : State) :
    s.brake.now = s.now ∧ s.brake.program = s.program ∧ s.brake.run = s.run ∧ s.brake.log = s.log ∧
    s.brake.thermal = s.thermal ∧ s.brake.budget = s.budget ∧ s.brake.converter = s.converter ∧
    s.brake.safety = s.safety ∧ s.brake.notices = s.notices ∧ s.brake.bus = s.bus ∧
    s.brake.pending = s.pending := by
  simp only [State.brake]
  repeat' split
  all_goals simp

@[simp] theorem State.removeDerate_frame (s : State) :
    s.removeDerate.now = s.now ∧ s.removeDerate.program = s.program ∧ s.removeDerate.run = s.run ∧
    s.removeDerate.log = s.log ∧ s.removeDerate.thermal = s.thermal ∧ s.removeDerate.converter = s.converter ∧
    s.removeDerate.safety = s.safety ∧ s.removeDerate.notices = s.notices ∧ s.removeDerate.bus = s.bus ∧
    s.removeDerate.pending = s.pending := by
  simp [State.removeDerate]

@[simp] theorem State.gates_frame (r s : State) :
    (r.gates s).now = s.now ∧ (r.gates s).program = s.program ∧ (r.gates s).run = s.run ∧
    (r.gates s).log = s.log ∧ (r.gates s).budget = s.budget ∧ (r.gates s).converter = s.converter ∧
    (r.gates s).safety = s.safety ∧ (r.gates s).notices = s.notices ∧ (r.gates s).bus = s.bus ∧
    (r.gates s).pending = s.pending := by
  simp only [State.gates]
  repeat' split
  all_goals simp

@[simp] theorem State.handIdle_frame (s : State) :
    s.handIdle.now = s.now ∧ s.handIdle.program = s.program ∧ s.handIdle.run = s.run ∧ s.handIdle.log = s.log ∧
    s.handIdle.budget = s.budget ∧ s.handIdle.converter = s.converter ∧ s.handIdle.safety = s.safety ∧
    s.handIdle.notices = s.notices ∧ s.handIdle.bus = s.bus ∧ s.handIdle.pending = s.pending := by
  simp [State.handIdle]

@[simp] theorem State.hold_frame (s : State) :
    s.hold.now = s.now ∧ s.hold.program = s.program ∧ s.hold.log = s.log ∧ s.hold.budget = s.budget ∧
    s.hold.converter = s.converter ∧ s.hold.safety = s.safety ∧ s.hold.notices = s.notices ∧
    s.hold.bus = s.bus ∧ s.hold.pending = s.pending := by
  simp [State.hold]

@[simp] theorem State.addCauses_frame (s : State) (c : CauseSet) :
    (s.addCauses c).now = s.now ∧ (s.addCauses c).program = s.program ∧ (s.addCauses c).log = s.log ∧
    (s.addCauses c).budget = s.budget ∧ (s.addCauses c).converter = s.converter ∧
    (s.addCauses c).safety = s.safety ∧ (s.addCauses c).bus = s.bus ∧ (s.addCauses c).pending = s.pending := by
  simp only [State.addCauses]
  repeat' split
  all_goals simp

@[simp] theorem State.examineRun_frame (s : State) :
    s.examineRun.now = s.now ∧ s.examineRun.program = s.program ∧ s.examineRun.log = s.log ∧
    s.examineRun.budget = s.budget ∧ s.examineRun.converter = s.converter ∧ s.examineRun.safety = s.safety ∧
    s.examineRun.bus = s.bus ∧ s.examineRun.pending = s.pending := by
  simp only [State.examineRun]
  repeat' split
  all_goals simp

@[simp] theorem State.endManual_frame (s : State) :
    s.endManual.now = s.now ∧ s.endManual.program = s.program ∧ s.endManual.log = s.log ∧
    s.endManual.budget = s.budget ∧ s.endManual.converter = s.converter ∧ s.endManual.safety = s.safety ∧
    s.endManual.notices = s.notices ∧ s.endManual.bus = s.bus ∧ s.endManual.pending = s.pending := by
  simp [State.endManual]

@[simp] theorem State.examineManual_frame (s : State) :
    s.examineManual.now = s.now ∧ s.examineManual.program = s.program ∧ s.examineManual.log = s.log ∧
    s.examineManual.budget = s.budget ∧ s.examineManual.converter = s.converter ∧
    s.examineManual.safety = s.safety ∧ s.examineManual.bus = s.bus ∧ s.examineManual.pending = s.pending := by
  simp only [State.examineManual]
  repeat' split
  all_goals simp

@[simp] theorem State.examine_frame (s : State) :
    s.examine.now = s.now ∧ s.examine.program = s.program ∧ s.examine.log = s.log ∧
    s.examine.budget = s.budget ∧ s.examine.converter = s.converter ∧ s.examine.safety = s.safety ∧
    s.examine.bus = s.bus ∧ s.examine.pending = s.pending := by
  simp [State.examine]

@[simp] theorem State.beginStep_frame (s : State) (r : StepRecord) :
    (s.beginStep r).now = s.now ∧ (s.beginStep r).log = s.log ∧ (s.beginStep r).thermal = s.thermal ∧
    (s.beginStep r).blade = s.blade ∧ (s.beginStep r).budget = s.budget ∧
    (s.beginStep r).converter = s.converter ∧ (s.beginStep r).safety = s.safety ∧
    (s.beginStep r).notices = s.notices ∧ (s.beginStep r).bus = s.bus ∧ (s.beginStep r).aux = s.aux ∧
    (s.beginStep r).pending = s.pending := by
  simp only [State.beginStep]
  repeat' split
  all_goals simp

@[simp] theorem State.announceStep_frame (s : State) (r : StepRecord) :
    (s.announceStep r).now = s.now ∧ (s.announceStep r).program = s.program ∧ (s.announceStep r).run = s.run ∧
    (s.announceStep r).weigh = s.weigh ∧ (s.announceStep r).log = s.log ∧
    (s.announceStep r).thermal = s.thermal ∧ (s.announceStep r).blade = s.blade ∧
    (s.announceStep r).budget = s.budget ∧ (s.announceStep r).converter = s.converter ∧
    (s.announceStep r).safety = s.safety ∧ (s.announceStep r).bus = s.bus ∧
    (s.announceStep r).pending = s.pending := by
  simp only [State.announceStep]
  repeat' split
  all_goals simp

@[simp] theorem State.enterStep_frame (s : State) :
    s.enterStep.now = s.now ∧ s.enterStep.log = s.log ∧ s.enterStep.converter = s.converter ∧
    s.enterStep.safety = s.safety ∧ s.enterStep.bus = s.bus ∧ s.enterStep.pending = s.pending := by
  simp only [State.enterStep]
  repeat' split
  all_goals simp

@[simp] theorem State.arrive_frame (s : State) :
    s.arrive.now = s.now ∧ s.arrive.log = s.log ∧ s.arrive.converter = s.converter ∧
    s.arrive.safety = s.safety ∧ s.arrive.bus = s.bus ∧ s.arrive.pending = s.pending := by
  simp only [State.arrive]
  repeat' split
  all_goals simp

@[simp] theorem State.closeResult_frame (s : State) (o : StepOutcome) (e : Option EndReason) :
    (s.closeResult o e).now = s.now ∧ (s.closeResult o e).run = s.run ∧ (s.closeResult o e).weigh = s.weigh ∧
    (s.closeResult o e).log = s.log ∧ (s.closeResult o e).thermal = s.thermal ∧
    (s.closeResult o e).blade = s.blade ∧ (s.closeResult o e).budget = s.budget ∧
    (s.closeResult o e).converter = s.converter ∧ (s.closeResult o e).safety = s.safety ∧
    (s.closeResult o e).notices = s.notices ∧ (s.closeResult o e).bus = s.bus ∧
    (s.closeResult o e).aux = s.aux ∧ (s.closeResult o e).pending = s.pending := by
  simp only [State.closeResult]
  repeat' split
  all_goals simp

@[simp] theorem State.checkOvershoot_frame (s : State) :
    s.checkOvershoot.now = s.now ∧ s.checkOvershoot.run = s.run ∧ s.checkOvershoot.weigh = s.weigh ∧
    s.checkOvershoot.log = s.log ∧ s.checkOvershoot.thermal = s.thermal ∧ s.checkOvershoot.blade = s.blade ∧
    s.checkOvershoot.budget = s.budget ∧ s.checkOvershoot.converter = s.converter ∧
    s.checkOvershoot.safety = s.safety ∧ s.checkOvershoot.bus = s.bus ∧ s.checkOvershoot.aux = s.aux ∧
    s.checkOvershoot.pending = s.pending := by
  simp only [State.checkOvershoot]
  repeat' split
  all_goals simp

@[simp] theorem State.finishRun_frame (s : State) :
    s.finishRun.now = s.now ∧ s.finishRun.program = s.program ∧ s.finishRun.budget = s.budget ∧
    s.finishRun.converter = s.converter ∧ s.finishRun.safety = s.safety ∧ s.finishRun.bus = s.bus ∧
    s.finishRun.pending = s.pending := by
  simp [State.finishRun]

@[simp] theorem State.advance_frame (s : State) :
    s.advance.now = s.now ∧ s.advance.program = s.program ∧ s.advance.log = s.log ∧
    s.advance.budget = s.budget ∧ s.advance.converter = s.converter ∧ s.advance.safety = s.safety ∧
    s.advance.bus = s.bus ∧ s.advance.pending = s.pending := by
  simp only [State.advance]
  repeat' split
  all_goals simp

@[simp] theorem State.proceed_frame (s : State) :
    s.proceed.now = s.now ∧ s.proceed.converter = s.converter ∧ s.proceed.safety = s.safety ∧
    s.proceed.bus = s.bus ∧ s.proceed.pending = s.pending := by
  simp only [State.proceed]
  repeat' split
  all_goals simp

@[simp] theorem State.exitStep_frame (s : State) (e : EndReason) :
    (s.exitStep e).now = s.now ∧ (s.exitStep e).converter = s.converter ∧ (s.exitStep e).safety = s.safety ∧
    (s.exitStep e).bus = s.bus ∧ (s.exitStep e).pending = s.pending := by
  simp [State.exitStep]

@[simp] theorem State.decideEnd_frame (s : State) :
    s.decideEnd.now = s.now ∧ s.decideEnd.converter = s.converter ∧ s.decideEnd.safety = s.safety ∧
    s.decideEnd.bus = s.bus ∧ s.decideEnd.pending = s.pending := by
  simp only [State.decideEnd]
  repeat' split
  all_goals simp

@[simp] theorem State.latch_frame (s : State) (c : Condition) :
    (s.latch c).now = s.now ∧ (s.latch c).converter = s.converter ∧ (s.latch c).safety = s.safety ∧
    (s.latch c).bus = s.bus ∧ (s.latch c).pending = s.pending := by
  simp only [State.latch]
  repeat' split
  all_goals simp

@[simp] theorem State.skipResult_frame (s : State) :
    s.skipResult.now = s.now ∧ s.skipResult.run = s.run ∧ s.skipResult.weigh = s.weigh ∧
    s.skipResult.log = s.log ∧ s.skipResult.thermal = s.thermal ∧ s.skipResult.blade = s.blade ∧
    s.skipResult.budget = s.budget ∧ s.skipResult.converter = s.converter ∧ s.skipResult.safety = s.safety ∧
    s.skipResult.bus = s.bus ∧ s.skipResult.aux = s.aux ∧ s.skipResult.pending = s.pending := by
  simp only [State.skipResult]
  repeat' split
  all_goals simp

@[simp] theorem State.holdNext_frame (s : State) :
    s.holdNext.now = s.now ∧ s.holdNext.program = s.program ∧ s.holdNext.log = s.log ∧
    s.holdNext.budget = s.budget ∧ s.holdNext.converter = s.converter ∧ s.holdNext.safety = s.safety ∧
    s.holdNext.bus = s.bus ∧ s.holdNext.pending = s.pending := by
  simp [State.holdNext]

@[simp] theorem State.stopAll_frame (s : State) (r : RunState) :
    (s.stopAll r).now = s.now ∧ (s.stopAll r).program = s.program ∧ (s.stopAll r).budget = s.budget ∧
    (s.stopAll r).converter = s.converter ∧ (s.stopAll r).safety = s.safety ∧
    (s.stopAll r).notices = s.notices ∧ (s.stopAll r).bus = s.bus ∧ (s.stopAll r).pending = s.pending := by
  simp [State.stopAll]

@[simp] theorem State.enterHalted_frame (s : State) :
    s.enterHalted.now = s.now ∧ s.enterHalted.program = s.program ∧ s.enterHalted.budget = s.budget ∧
    s.enterHalted.converter = s.converter ∧ s.enterHalted.safety = s.safety ∧ s.enterHalted.bus = s.bus ∧
    s.enterHalted.pending = s.pending := by
  simp [State.enterHalted]

@[simp] theorem State.enterFaulted_frame (s : State) :
    s.enterFaulted.now = s.now ∧ s.enterFaulted.program = s.program ∧ s.enterFaulted.budget = s.budget ∧
    s.enterFaulted.converter = s.converter ∧ s.enterFaulted.safety = s.safety ∧ s.enterFaulted.bus = s.bus ∧
    s.enterFaulted.pending = s.pending := by
  simp [State.enterFaulted]

@[simp] theorem State.setStopLatch_frame (s : State) :
    s.setStopLatch.now = s.now ∧ s.setStopLatch.program = s.program ∧ s.setStopLatch.budget = s.budget ∧
    s.setStopLatch.converter = s.converter ∧ s.setStopLatch.bus = s.bus ∧
    s.setStopLatch.pending = s.pending := by
  simp only [State.setStopLatch]
  repeat' split
  all_goals simp

@[simp] theorem State.lapse_frame (s : State) :
    s.lapse.now = s.now ∧ s.lapse.program = s.program ∧ s.lapse.budget = s.budget ∧
    s.lapse.converter = s.converter ∧ s.lapse.bus = s.bus ∧ s.lapse.pending = s.pending := by
  simp only [State.lapse]
  repeat' split
  all_goals simp

@[simp] theorem State.startRun_frame (s : State) :
    s.startRun.now = s.now ∧ s.startRun.converter = s.converter ∧ s.startRun.safety = s.safety ∧
    s.startRun.bus = s.bus ∧ s.startRun.pending = s.pending := by
  simp [State.startRun]

@[simp] theorem State.restoreStep_frame (s : State) :
    s.restoreStep.now = s.now ∧ s.restoreStep.program = s.program ∧ s.restoreStep.run = s.run ∧
    s.restoreStep.log = s.log ∧ s.restoreStep.budget = s.budget ∧ s.restoreStep.converter = s.converter ∧
    s.restoreStep.safety = s.safety ∧ s.restoreStep.notices = s.notices ∧ s.restoreStep.bus = s.bus ∧
    s.restoreStep.pending = s.pending := by
  simp only [State.restoreStep]
  repeat' split
  all_goals simp

@[simp] theorem State.resumeRun_frame (s : State) :
    s.resumeRun.now = s.now ∧ s.resumeRun.converter = s.converter ∧ s.resumeRun.safety = s.safety ∧
    s.resumeRun.bus = s.bus ∧ s.resumeRun.pending = s.pending := by
  simp only [State.resumeRun]
  repeat' split
  all_goals simp

@[simp] theorem State.skipStep_frame (s : State) :
    s.skipStep.now = s.now ∧ s.skipStep.converter = s.converter ∧ s.skipStep.safety = s.safety ∧
    s.skipStep.bus = s.bus ∧ s.skipStep.pending = s.pending := by
  simp only [State.skipStep]
  repeat' split
  all_goals simp

@[simp] theorem State.abortRun_frame (s : State) :
    s.abortRun.now = s.now ∧ s.abortRun.budget = s.budget ∧ s.abortRun.converter = s.converter ∧
    s.abortRun.safety = s.safety ∧ s.abortRun.notices = s.notices ∧ s.abortRun.bus = s.bus ∧
    s.abortRun.pending = s.pending := by
  simp only [State.abortRun]
  repeat' split
  all_goals simp

@[simp] theorem State.setManual_frame (s : State) (level : Nat) (heat : Option (Nat × Nat)) :
    (s.setManual level heat).now = s.now ∧ (s.setManual level heat).program = s.program ∧
    (s.setManual level heat).log = s.log ∧ (s.setManual level heat).converter = s.converter ∧
    (s.setManual level heat).safety = s.safety ∧ (s.setManual level heat).notices = s.notices ∧
    (s.setManual level heat).bus = s.bus ∧ (s.setManual level heat).pending = s.pending := by
  simp [State.setManual]

@[simp] theorem State.logSettled_frame (s : State) (m : Int) :
    (s.logSettled m).now = s.now ∧ (s.logSettled m).program = s.program ∧ (s.logSettled m).run = s.run ∧
    (s.logSettled m).weigh = s.weigh ∧ (s.logSettled m).thermal = s.thermal ∧
    (s.logSettled m).blade = s.blade ∧ (s.logSettled m).budget = s.budget ∧
    (s.logSettled m).converter = s.converter ∧ (s.logSettled m).safety = s.safety ∧
    (s.logSettled m).bus = s.bus ∧ (s.logSettled m).aux = s.aux ∧ (s.logSettled m).pending = s.pending := by
  simp only [State.logSettled]
  repeat' split
  all_goals simp

@[simp] theorem State.testNear_frame (s : State) (g : Int) :
    (s.testNear g).now = s.now ∧ (s.testNear g).program = s.program ∧ (s.testNear g).run = s.run ∧
    (s.testNear g).log = s.log ∧ (s.testNear g).thermal = s.thermal ∧ (s.testNear g).blade = s.blade ∧
    (s.testNear g).budget = s.budget ∧ (s.testNear g).converter = s.converter ∧
    (s.testNear g).safety = s.safety ∧ (s.testNear g).bus = s.bus ∧ (s.testNear g).aux = s.aux ∧
    (s.testNear g).pending = s.pending := by
  simp only [State.testNear]
  repeat' split
  all_goals simp

@[simp] theorem State.serveLog_frame (s : State) :
    s.serveLog.now = s.now ∧ s.serveLog.program = s.program ∧ s.serveLog.run = s.run ∧
    s.serveLog.weigh = s.weigh ∧ s.serveLog.thermal = s.thermal ∧ s.serveLog.blade = s.blade ∧
    s.serveLog.budget = s.budget ∧ s.serveLog.converter = s.converter ∧ s.serveLog.safety = s.safety ∧
    s.serveLog.bus = s.bus ∧ s.serveLog.aux = s.aux ∧ s.serveLog.pending = s.pending := by
  simp only [State.serveLog]
  repeat' split
  all_goals simp

@[simp] theorem State.testWeight_frame (s : State) :
    s.testWeight.now = s.now ∧ s.testWeight.converter = s.converter ∧ s.testWeight.safety = s.safety ∧
    s.testWeight.bus = s.bus ∧ s.testWeight.pending = s.pending := by
  simp only [State.testWeight]
  repeat' split
  all_goals simp

@[simp] theorem State.validSample_frame (s : State) (codes : List (Tri × Tri)) :
    (s.validSample codes).now = s.now ∧ (s.validSample codes).converter = s.converter ∧
    (s.validSample codes).safety = s.safety ∧ (s.validSample codes).bus = s.bus ∧
    (s.validSample codes).pending = s.pending := by
  simp [State.validSample]

@[simp] theorem State.forceTare_frame (s : State) :
    s.forceTare.now = s.now ∧ s.forceTare.run = s.run ∧ s.forceTare.log = s.log ∧
    s.forceTare.thermal = s.thermal ∧ s.forceTare.blade = s.blade ∧ s.forceTare.budget = s.budget ∧
    s.forceTare.converter = s.converter ∧ s.forceTare.safety = s.safety ∧ s.forceTare.bus = s.bus ∧
    s.forceTare.aux = s.aux ∧ s.forceTare.pending = s.pending := by
  simp only [State.forceTare]
  repeat' split
  all_goals simp

@[simp] theorem State.baseReading_frame (s : State) (r : Reading) :
    (s.baseReading r).now = s.now ∧ (s.baseReading r).log = s.log ∧ (s.baseReading r).budget = s.budget ∧
    (s.baseReading r).converter = s.converter ∧ (s.baseReading r).safety = s.safety ∧
    (s.baseReading r).bus = s.bus ∧ (s.baseReading r).pending = s.pending := by
  simp only [State.baseReading]
  repeat' split
  all_goals simp

@[simp] theorem State.elementReading_frame (s : State) (r : Reading) :
    (s.elementReading r).now = s.now ∧ (s.elementReading r).program = s.program ∧
    (s.elementReading r).run = s.run ∧ (s.elementReading r).log = s.log ∧
    (s.elementReading r).budget = s.budget ∧ (s.elementReading r).converter = s.converter ∧
    (s.elementReading r).safety = s.safety ∧ (s.elementReading r).bus = s.bus ∧
    (s.elementReading r).pending = s.pending := by
  simp only [State.elementReading]
  repeat' split
  all_goals simp

@[simp] theorem State.inverterOff_frame (s : State) :
    s.inverterOff.now = s.now ∧ s.inverterOff.program = s.program ∧ s.inverterOff.run = s.run ∧
    s.inverterOff.weigh = s.weigh ∧ s.inverterOff.log = s.log ∧ s.inverterOff.thermal = s.thermal ∧
    s.inverterOff.budget = s.budget ∧ s.inverterOff.converter = s.converter ∧ s.inverterOff.safety = s.safety ∧
    s.inverterOff.notices = s.notices ∧ s.inverterOff.bus = s.bus ∧ s.inverterOff.aux = s.aux ∧
    s.inverterOff.pending = s.pending := by
  simp [State.inverterOff]

@[simp] theorem State.sendMains_frame (s : State) (m : MainsState) :
    (s.sendMains m).now = s.now ∧ (s.sendMains m).program = s.program ∧ (s.sendMains m).run = s.run ∧
    (s.sendMains m).weigh = s.weigh ∧ (s.sendMains m).log = s.log ∧ (s.sendMains m).thermal = s.thermal ∧
    (s.sendMains m).blade = s.blade ∧ (s.sendMains m).budget = s.budget ∧
    (s.sendMains m).converter = s.converter ∧ (s.sendMains m).safety = s.safety ∧ (s.sendMains m).bus = s.bus ∧
    (s.sendMains m).aux = s.aux ∧ (s.sendMains m).pending = s.pending := by
  simp only [State.sendMains]
  repeat' split
  all_goals simp

@[simp] theorem State.setMains_frame (s : State) (m : MainsState) :
    (s.setMains m).now = s.now ∧ (s.setMains m).program = s.program ∧ (s.setMains m).log = s.log ∧
    (s.setMains m).budget = s.budget ∧ (s.setMains m).converter = s.converter ∧
    (s.setMains m).safety = s.safety ∧ (s.setMains m).bus = s.bus ∧ (s.setMains m).pending = s.pending := by
  simp only [State.setMains]
  repeat' split
  all_goals simp

@[simp] theorem State.mainsReading_frame (s : State) (live : Bool) (code : Nat) :
    (s.mainsReading live code).now = s.now ∧ (s.mainsReading live code).program = s.program ∧
    (s.mainsReading live code).log = s.log ∧ (s.mainsReading live code).budget = s.budget ∧
    (s.mainsReading live code).converter = s.converter ∧ (s.mainsReading live code).safety = s.safety ∧
    (s.mainsReading live code).bus = s.bus ∧ (s.mainsReading live code).pending = s.pending := by
  simp only [State.mainsReading]
  repeat' split
  all_goals simp

@[simp] theorem State.derate_frame (s : State) :
    s.derate.now = s.now ∧ s.derate.program = s.program ∧ s.derate.run = s.run ∧ s.derate.log = s.log ∧
    s.derate.thermal = s.thermal ∧ s.derate.converter = s.converter ∧ s.derate.safety = s.safety ∧
    s.derate.bus = s.bus ∧ s.derate.pending = s.pending := by
  simp only [State.derate]
  repeat' split
  all_goals simp

@[simp] theorem State.recover_frame (s : State) :
    s.recover.now = s.now ∧ s.recover.program = s.program ∧ s.recover.run = s.run ∧ s.recover.log = s.log ∧
    s.recover.thermal = s.thermal ∧ s.recover.converter = s.converter ∧ s.recover.safety = s.safety ∧
    s.recover.notices = s.notices ∧ s.recover.bus = s.bus ∧ s.recover.pending = s.pending := by
  simp only [State.recover]
  repeat' split
  all_goals simp

@[simp] theorem State.endWindow_frame (s : State) :
    s.endWindow.now = s.now ∧ s.endWindow.program = s.program ∧ s.endWindow.run = s.run ∧
    s.endWindow.log = s.log ∧ s.endWindow.thermal = s.thermal ∧ s.endWindow.converter = s.converter ∧
    s.endWindow.safety = s.safety ∧ s.endWindow.bus = s.bus ∧ s.endWindow.pending = s.pending := by
  simp [State.endWindow]

@[simp] theorem State.testTemp_frame (s : State) :
    s.testTemp.now = s.now ∧ s.testTemp.converter = s.converter ∧ s.testTemp.safety = s.safety ∧
    s.testTemp.bus = s.bus ∧ s.testTemp.pending = s.pending := by
  simp only [State.testTemp]
  repeat' split
  all_goals simp

@[simp] theorem State.grantWindow_frame (s : State) :
    s.grantWindow.now = s.now ∧ s.grantWindow.program = s.program ∧ s.grantWindow.run = s.run ∧
    s.grantWindow.weigh = s.weigh ∧ s.grantWindow.log = s.log ∧ s.grantWindow.blade = s.blade ∧
    s.grantWindow.budget = s.budget ∧ s.grantWindow.converter = s.converter ∧ s.grantWindow.safety = s.safety ∧
    s.grantWindow.notices = s.notices ∧ s.grantWindow.bus = s.bus ∧ s.grantWindow.aux = s.aux ∧
    s.grantWindow.pending = s.pending := by
  simp [State.grantWindow]

@[simp] theorem State.startWindow_frame (s : State) :
    s.startWindow.now = s.now ∧ s.startWindow.safety = s.safety ∧ s.startWindow.bus = s.bus ∧
    s.startWindow.pending = s.pending := by
  simp [State.startWindow]

@[simp] theorem State.beginCycle_frame (s : State) :
    s.beginCycle.now = s.now ∧ s.beginCycle.safety = s.safety ∧ s.beginCycle.bus = s.bus ∧
    s.beginCycle.pending = s.pending := by
  simp only [State.beginCycle]
  repeat' split
  all_goals simp

@[simp] theorem State.abandonWindow_frame (s : State) :
    s.abandonWindow.now = s.now ∧ s.abandonWindow.program = s.program ∧ s.abandonWindow.run = s.run ∧
    s.abandonWindow.weigh = s.weigh ∧ s.abandonWindow.log = s.log ∧ s.abandonWindow.budget = s.budget ∧
    s.abandonWindow.safety = s.safety ∧ s.abandonWindow.notices = s.notices ∧ s.abandonWindow.bus = s.bus ∧
    s.abandonWindow.aux = s.aux ∧ s.abandonWindow.pending = s.pending := by
  simp [State.abandonWindow]

@[simp] theorem State.answerStall_frame (s : State) :
    s.answerStall.now = s.now ∧ s.answerStall.program = s.program ∧ s.answerStall.log = s.log ∧
    s.answerStall.budget = s.budget ∧ s.answerStall.converter = s.converter ∧ s.answerStall.safety = s.safety ∧
    s.answerStall.bus = s.bus ∧ s.answerStall.pending = s.pending := by
  simp only [State.answerStall]
  repeat' split
  all_goals simp

@[simp] theorem State.warmReset_frame (s : State) :
    s.warmReset.now = s.now ∧ s.warmReset.pending = s.pending := by
  simp [State.warmReset]

@[simp] theorem State.sampleLine_frame (s : State) (l : SlowLine) (level : Bool) :
    (s.sampleLine l level).now = s.now ∧ (s.sampleLine l level).program = s.program ∧
    (s.sampleLine l level).log = s.log ∧ (s.sampleLine l level).budget = s.budget ∧
    (s.sampleLine l level).converter = s.converter ∧ (s.sampleLine l level).bus = s.bus ∧
    (s.sampleLine l level).pending = s.pending := by
  simp only [State.sampleLine]
  repeat' split
  all_goals simp

@[simp] theorem State.armLease_frame (s : State) (period : Nat) (locked : Bool) :
    (s.armLease period locked).now = s.now ∧ (s.armLease period locked).program = s.program ∧
    (s.armLease period locked).log = s.log ∧ (s.armLease period locked).budget = s.budget ∧
    (s.armLease period locked).converter = s.converter ∧ (s.armLease period locked).bus = s.bus ∧
    (s.armLease period locked).pending = s.pending := by
  simp [State.armLease]

@[simp] theorem State.disarmLease_frame (s : State) :
    s.disarmLease.now = s.now ∧ s.disarmLease.program = s.program ∧ s.disarmLease.log = s.log ∧
    s.disarmLease.budget = s.budget ∧ s.disarmLease.converter = s.converter ∧ s.disarmLease.bus = s.bus ∧
    s.disarmLease.pending = s.pending := by
  simp [State.disarmLease]

end Sys2Proof.Machine
end

