-- ==== Sys2Proof/Laws/Commands.lean ====
section
/-! SUPPORT. What the interpreter, the handovers, the brake and the arbiter can do, said once: the lemmas that
proofs about commands and events cite in place of unfolding those operations. -/

namespace Sys2Proof.Machine

/-! ### The interpreter -/

/-- A frame that is taken leaves everything but the queue. -/
theorem State.takeFrame_cases {s s1 : State} {f : Frame} (h : s.takeFrame f = some s1) :
    (∃ rest, s.bus.queue = f :: rest ∧ s1 = { s with bus := { s.bus with queue := rest } }) ∨
    (s.bus.queue = [] ∧ s.bus.writing = none ∧ s.bus.enabled f.port = true ∧ s1 = s) := by
  unfold State.takeFrame at h
  split at h
  · next head rest heq =>
    split at h
    · next hf => subst hf; exact .inl ⟨rest, heq, (Option.some.inj h).symm⟩
    · cases h
  · next heq =>
    split at h
    · next hc => exact .inr ⟨heq, hc.1, hc.2.1, (Option.some.inj h).symm⟩
    · cases h

/-- The answers of the interpreter, by the stage that gives them (R182). -/
theorem interpret_cases (s : State) (f : Frame) (code : Byte) (rule : State → Executed) :
    (f.isBad = true ∧ interpret s f code rule = refuse s .badFrame) ∨
    (f.isBad = false ∧ s.bus.accepts f.port (classOf code) = false ∧
      interpret s f code rule = refuse s .refusedClass) ∨
    (f.isBad = false ∧ s.bus.accepts f.port (classOf code) = true ∧ passesState s code = false ∧
      interpret s f code rule = refuse s .refusedState) ∨
    (f.isBad = false ∧ s.bus.accepts f.port (classOf code) = true ∧ passesState s code = true ∧
      interpret s f code rule = rule s) := by
  unfold interpret
  cases f.isBad <;> cases s.bus.accepts f.port (classOf code) <;> cases passesState s code <;> simp

/-- A frame that cannot be taken has no effect (log entry 6). -/
theorem runCommand_of_not_taken {s : State} {p : Port} {code : Byte} {params : List Byte}
    {rule : State → Executed}
    (h : s.takeFrame ⟨p, frameBytesOf code params, decide (38 < params.length)⟩ = none) :
    runCommand s p code params rule = s := by
  simp [runCommand, h]

/-- A frame that is taken is interpreted, and its outcome goes to the reply slot of its port. -/
theorem runCommand_of_taken {s s1 : State} {p : Port} {code : Byte} {params : List Byte}
    {rule : State → Executed}
    (h : s.takeFrame ⟨p, frameBytesOf code params, decide (38 < params.length)⟩ = some s1) :
    runCommand s p code params rule =
      (interpret s1 ⟨p, frameBytesOf code params, decide (38 < params.length)⟩ code rule).1.recordReply p
        (some code) (interpret s1 ⟨p, frameBytesOf code params, decide (38 < params.length)⟩ code rule).2 := by
  simp [runCommand, h]

/-! ### Heat -/

@[simp] theorem State.cutGrant_grant (s : State) : s.cutGrant.thermal.grant = 0 := by
  simp [State.cutGrant, State.updateVent]

@[simp] theorem State.cutGrant_gate (s : State) : s.cutGrant.thermal.gate = false := by
  simp [State.cutGrant, State.updateVent]

@[simp] theorem State.cutGrant_setPoint (s : State) :
    s.cutGrant.thermal.setPoint = s.thermal.setPoint := by
  simp [State.cutGrant, State.updateVent]

/-- The set point handed over is the one of the run state and the step (R106). -/
@[simp] theorem State.handHeat_setPoint (s : State) : s.handHeat.thermal.setPoint = s.heatPoint := by
  unfold State.handHeat
  dsimp only
  split <;> simp

/-! ### Blade -/

/-- After the blade follows the state, the commanded level is the one the state gives (R121). -/
@[simp] theorem State.updateCommanded_commanded (s : State) :
    s.updateCommanded.blade.commanded = s.commandedLevel := by
  unfold State.updateCommanded
  split
  · next h => exact h.symm
  · rfl

@[simp] theorem State.updateCommanded_effective (s : State) :
    s.updateCommanded.blade.effective = s.blade.effective := by
  unfold State.updateCommanded
  split <;> rfl

@[simp] theorem State.updateCommanded_stir (s : State) :
    s.updateCommanded.blade.stir = s.blade.stir := by
  unfold State.updateCommanded
  split <;> rfl

@[simp] theorem State.updateBlade_commanded (s : State) :
    s.updateBlade.blade.commanded = s.commandedLevel := by
  simp [State.updateBlade, State.updateStall, State.updateRamp]

@[simp] theorem State.updateBlade_effective (s : State) :
    s.updateBlade.blade.effective = s.blade.effective := by
  simp [State.updateBlade, State.updateStall, State.updateRamp]

@[simp] theorem State.updateBlade_stir (s : State) : s.updateBlade.blade.stir = s.blade.stir := by
  simp [State.updateBlade, State.updateStall, State.updateRamp]

@[simp] theorem State.takeDirection_stir (s : State) : s.takeDirection.blade.stir = s.blade.stir := by
  unfold State.takeDirection
  split <;> rfl

/-- The stir set point handed over is in force (R120). -/
@[simp] theorem State.handStir_stir (s : State) (p : StirPoint) : (s.handStir p).blade.stir = p := by
  simp [State.handStir]

/-- Without motion enable the commanded level is 0 (R121). -/
theorem State.commandedLevel_of_not_enabled {s : State} (h : s.motionEnabled = false) :
    s.commandedLevel = 0 := by
  simp [State.commandedLevel, h]

@[simp] theorem State.updateStall_effective (s : State) :
    s.updateStall.blade.effective = s.blade.effective := rfl

@[simp] theorem State.endRest_effective (s : State) : s.endRest.blade.effective = s.blade.effective := by
  unfold State.endRest
  split
  · simp
  · rfl

/-- The drive brakes to effective level 0 (R127). -/
@[simp] theorem State.brake_effective (s : State) : s.brake.blade.effective = 0 := by
  simp [State.brake]

/-! ### Notices -/

/-- Inserting a record adds one to the list. -/
@[simp] theorem insertNotice_length (n : Notice) (l : List Notice) :
    (insertNotice n l).length = l.length + 1 := by
  induction l with
  | nil => rfl
  | cons m rest ih =>
    unfold insertNotice
    split <;> simp [ih]

/-- The members after an insertion are the record and the members before (R169). -/
theorem mem_insertNotice {n m : Notice} {l : List Notice} :
    m ∈ insertNotice n l ↔ m = n ∨ m ∈ l := by
  induction l with
  | nil => simp [insertNotice]
  | cons a rest ih =>
    unfold insertNotice
    split
    · simp [ih]; tauto
    · simp

/-! ### The arbiter -/

/-- A choice with work in progress changes nothing (R144). -/
theorem Converter.choose_of_busy {c : Converter} (h : c.work ≠ .free) (now : Nat) : c.choose now = c := by
  simp [Converter.choose, Converter.isFree, h]

/-- A choice of a converter that became free begins the waiting request of the highest priority (R144). -/
theorem Converter.choose_of_free {c : Converter} (h : c.work = .free) (now : Nat) :
    c.choose now = { c.begin now with chosenAt := none } := by
  simp [Converter.choose, Converter.isFree, h]

/-- A request that arrives while work is in progress waits (R144). -/
theorem Converter.arrive_of_busy {c : Converter} (h : c.work ≠ .free) (now : Nat) : c.arrive now = c := by
  simp [Converter.arrive, Converter.isFree, h]

/-- A request that arrives at a free converter makes the arbiter choose, and the moment is kept (R144). -/
theorem Converter.arrive_of_free {c : Converter} (h : c.work = .free) (now : Nat) :
    c.arrive now = { c.begin now with chosenAt := some now } := by
  simp [Converter.arrive, Converter.isFree, h]

/-- Work that was not chosen on an arrival at this moment goes on (R144). -/
theorem Converter.recall_of_earlier {c : Converter} {now : Nat} (h : c.chosenAt ≠ some now) :
    c.recall now = c := by
  simp [Converter.recall, h]

/-- Work that was chosen on an arrival at this moment waits again (R144). -/
theorem Converter.recall_of_together {c : Converter} {now : Nat} (h : c.chosenAt = some now) :
    c.recall now = c.unbegin := by
  simp [Converter.recall, h]

@[simp] theorem Converter.unbegin_work (c : Converter) : c.unbegin.work = .free := rfl

@[simp] theorem Converter.unbegin_chosenAt (c : Converter) : c.unbegin.chosenAt = none := rfl

/-- What a recall can do: nothing, or the work in progress waits again and the converter is free. -/
theorem Converter.recall_cases (c : Converter) (now : Nat) :
    (c.chosenAt ≠ some now ∧ c.recall now = c) ∨
    (c.chosenAt = some now ∧ (c.recall now).work = .free ∧ (c.recall now).chosenAt = none) := by
  by_cases h : c.chosenAt = some now
  · exact .inr ⟨h, by simp [Converter.recall_of_together h]⟩
  · exact .inl ⟨h, Converter.recall_of_earlier h⟩

end Sys2Proof.Machine
end

