-- ==== Sys2Proof/Tests/Slice0.lean ====
section
/-! SUPPORT. Tests of single events on small states. Expected values are the manual's own examples and tables
(cited), or follow from a rule by hand. The theorems `meets_<Name>` show states and operands that meet the
hypotheses of the statement of that name, clause by clause. -/

namespace Sys2Proof.Tests

open Sys2Proof Sys2Proof.Machine

/- One theorem after another: many evaluations at once need more threads than the check allows. -/
set_option Elab.async false

/-! ## Small states -/

/-- The state that an event leaves. -/
def after (i : Instr) (s : State) : State :=
  match exec i s with
  | .next t => t
  | .fault _ | .refused _ => s

/-- The result code of a port's last executed frame. -/
def replyOf (p : Port) (s : State) : Option ResultCode := (s.bus.slots.get p).result

/-- A part in a run state. -/
def inState (r : RunState) : State := { State.reset with run := { Run.reset with state := r } }

/-- A record with a Prompt part alone. -/
def promptStep : StepRecord :=
  { label := 1, endMode := .any, limit := none, autoTare := false, clamped := false, heat := none, stir := none,
    weigh := none, time := none, prompt := some 7 }

/-- A record with every part: target 1000, level 4, 2,000 dg, 1 s from entry, limit 2 s. -/
def fullStep : StepRecord :=
  { promptStep with
    limit := some 2, heat := some ⟨1000, 1200, 50⟩, stir := some ⟨4, .forward, .continuous⟩
    weigh := some ⟨2000, 50⟩, time := some ⟨1, .fromEntry⟩ }

/-- The full record under ALL. -/
def allStep : StepRecord := { fullStep with endMode := .all }

/-- A part in a run state with a program. -/
def withSteps (r : RunState) (l : List StepRecord) : State :=
  { inState r with program := { Program.reset with steps := l } }

/-- The lines active and the lease LIVE. -/
def safeBlock : Safety :=
  { Safety.reset false with
    heatPermit := ⟨true, 0⟩, motionPermit := ⟨true, 0⟩, lidClosed := ⟨true, 0⟩, lease := .live, period := 20
    count := 20 }

/-- Valid sensors, a base at 962, mains present at 2,300 dV. -/
def warmBowl : Thermal :=
  { Thermal.reset with
    base := .valid 962, element := .valid 1500, baseHistory := [961, 962, 963, 962], mains := .present
    volts := some 2300 }

/-- A run with its first step ACTIVE, all interlocks clear, and a result that says so. -/
def running (l : List StepRecord) : State :=
  let s := withSteps .running l
  { s with
    program := { s.program with results := s.program.results.set 0 .entered }
    run := { s.run with phase := .active, countRose := true }
    log := { s.log with isOpen := true }
    safety := safeBlock
    thermal := warmBowl }

/-- The same run HELD for a pause. -/
def held (l : List StepRecord) : State :=
  let s := running l
  { s with run := { s.run with state := .held, causes := { pause := true } } }

/-- A part at rest with nothing to stop heat or motion. -/
def able (r : RunState) : State := { inState r with safety := safeBlock, thermal := warmBowl }

/-- A converter at work on one channel until `ends`. -/
def converting (s : State) (c : Channel) (live : Bool) (ends : Nat) : State :=
  { s with converter := { s.converter with work := .single c live ends } }

/-! ## Well-formedness -/

theorem test_wf_putStep_short : (Instr.putStep .console 0 [1, 0, 0, 0]).wellFormed = false := by decide
theorem test_wf_putStep_long :
    (Instr.putStep .console 0 (List.replicate 38 0)).wellFormed = false := by decide
theorem test_wf_tableFirst : (Instr.loadThermistorTableFirst .console 0 []).wellFormed = false := by decide
theorem test_wf_tableSecond :
    (Instr.loadThermistorTableSecond .console 1 (List.replicate 9 (0, 0))).wellFormed = false := by decide
theorem test_wf_badFrame_empty : (Instr.badFrame .console [] false).wellFormed = false := by decide
theorem test_wf_badFrame_long :
    (Instr.badFrame .console (List.replicate 41 0) true).wellFormed = false := by decide
theorem test_wf_burst : (Instr.scaleBurstComplete (List.replicate 3 (0, 0))).wellFormed = false := by decide
theorem test_wf_ok : (Instr.scaleBurstComplete (List.replicate 4 (0, 0))).wellFormed = true := by decide

/-! ## Frames written out from section 12.2 -/

theorem test_frame_selectView :
    decodeFrame .console false [0x04, 0x00, 0x02, 0x00, 0x03] = some (.selectView .console 2 3) := by decide
theorem test_frame_pause : decodeFrame .link false [0x01, 0x20] = some (.pause .link) := by decide
theorem test_frame_manualSet :
    decodeFrame .console false [0x07, 0x80, 0x03, 0x01, 0x02, 0x8A, 0x03, 0x20]
      = some (.manualSet .console 3 1 650 800) := by decide
theorem test_frame_leaseArm :
    decodeFrame .safety false [0x03, 0xC0, 0x14, 0x01] = some (.leaseArm .safety 20 1) := by decide
theorem test_frame_setBudget :
    decodeFrame .service false [0x03, 0xA4, 0x04, 0xB0] = some (.setBudget .service 1200) := by decide
theorem test_frame_setHoldPoint :
    decodeFrame .console false [0x03, 0x60, 0x01, 0x04] = some (.setHoldPoint .console 1 4) := by decide
theorem test_frame_setSubscription :
    decodeFrame .link false [0x03, 0x11, 0x00, 0x7B] = some (.setSubscription .link 0x007B) := by decide
theorem test_frame_confirm : decodeFrame .console false [0x02, 0x30, 0x05] = some (.confirm .console 5) := by
  decide
theorem test_frame_setLineLevel :
    decodeFrame .console true [0x03, 0x90, 0x03, 0x01] = some (.setLineLevel .console 3 1 true) := by decide
theorem test_frame_warmReset : decodeFrame .service false [0x01, 0xB0] = some (.warmReset .service) := by decide
theorem test_frame_wrong_length : decodeFrame .console false [0x02, 0x20] = none := by decide
theorem test_frame_unknown_code : decodeFrame .console false [0x01, 0xD0] = none := by decide

/-! ## Arithmetic of the manual's examples -/

/-- Conventions: halves away from zero. -/
theorem test_roundDiv_half : roundDiv (-31) 2 = -16 ∧ roundDiv 31 2 = 16 ∧ roundDiv (-65) 4 = -16 := by decide
/-- R107's table. -/
theorem test_heaterRequest : heaterRequest (some ⟨1000, 1200, 50⟩) (some 962) = 912 := by decide
/-- R112's table. -/
theorem test_duty : dutyOf 912 (2300 * 2300 / 3527) = 30 ∧ dutyOf 912 (1700 * 1700 / 3527) = 50 ∧
    dutyOf 14 1499 = 0 := by decide
/-- R113's table: D = 30. -/
theorem test_marked : (List.range 10).filter (fun k => marked k 30) = [1, 3, 4, 6, 8, 9] := by decide
/-- R104: a code of 3,140 is 2,300 dV, and 1,229 is 900 dV, UNDERVOLT. -/
theorem test_volts : roundDiv (3140 * 3000) 4096 = 2300 ∧ roundDiv (1229 * 3000) 4096 = 900 ∧
    mainsOf 900 = .undervolt ∧ mainsOf 899 = .lost ∧ mainsOf 1800 = .present := by decide
/-- R133: a code of 461 is 900 mA, and 293 W at 2,300 dV. -/
theorem test_power : motorCurrent 461 = 900 ∧ powerSample (some 2300) 900 = 293 := by decide
/-- R130: a period of 150,000 µs is 400 rpm, and 6,700 µs is 8,955 rpm, level 12. -/
theorem test_speed : speedOf 450000 = 400 ∧ speedOf 20100 = 8955 ∧ actualLevel 8955 = 12 ∧ actualLevel 20 = 0 ∧
    actualLevel 21 = 1 ∧ actualLevel 7500 = 11 := by decide
/-- R98: readings of −15 and −16 give Tb −16. -/
theorem test_tb : ({ Thermal.reset with base := .valid (-16), baseHistory := [-15, -16] } : Thermal).tb
    = some (-16) := by decide

/-! ## Commands -/

/-- R12: a record that needs no clamp at index 0 of an empty table: IDLE becomes READY. -/
theorem test_putStep : let t := after (.putStep .console 0 [1, 0, 0, 0, 16, 7]) State.reset
    t.program.steps = [promptStep] ∧ t.run.state = .ready ∧ replyOf .console t = some .ok := by decide +kernel
/-- R2, R9: a limit of 20,000 s is stored as 14,400. -/
theorem test_putStep_clamps :
    let t := after (.putStep .console 0 [1, 4, 0x4E, 0x20, 16, 7]) State.reset
    t.program.steps.map StepRecord.limit = [some 14400] ∧ replyOf .console t = some .okClamped := by
  decide +kernel
/-- R14: the only record is deleted in READY. -/
theorem test_deleteStep : let t := after (.deleteStep .console 0) (withSteps .ready [promptStep])
    t.program.steps = [] ∧ t.run.state = .idle := by decide +kernel
/-- R15 is refused in a run. -/
theorem test_clearProgram_refused :
    replyOf .console (after (.clearProgram .console) (running [promptStep])) = some .refusedState := by
  decide +kernel
/-- R17: the index of the other slot is IN_USE. -/
theorem test_setHoldPoint_inUse :
    replyOf .console (after (.setHoldPoint .console 1 0)
      (after (.setHoldPoint .console 0 0) (withSteps .ready [promptStep]))) = some .inUse := by decide +kernel
/-- R24, R26: START enters step 0. -/
theorem test_start :
    let s := withSteps .ready [promptStep]
    let t := after (.start .console) { s with safety := safeBlock, thermal := warmBowl }
    t.run.state = .running ∧ t.run.phase = .active ∧ t.log.isOpen = true ∧
      t.outcomeAt 0 = some (.active, none) := by decide +kernel
/-- R34: the entry finds the lid open and the mains lost. -/
theorem test_start_interlocked : let t := after (.start .console) (withSteps .ready [promptStep])
    t.run.state = .held ∧ t.run.causes = { lid := true, mains := true, ack := true } := by decide +kernel
/-- R40: CONFIRM of another index is STALE. -/
theorem test_confirm_stale :
    replyOf .console (after (.confirm .console 1) (running [promptStep])) = some .stale := by decide +kernel
/-- R31: CONFIRM ends the only step, and the run is DONE. -/
theorem test_confirm_done : let t := after (.confirm .console 0) (running [promptStep])
    t.run.state = .done ∧ t.run.cursor = 1 ∧ t.outcomeAt 0 = some (.completed, some .confirm) := by
  decide +kernel
/-- R36, R35: PAUSE holds the run with keep-warm heat. -/
theorem test_pause : let t := after (.pause .console) (running [fullStep])
    t.run.state = .held ∧ t.thermal.setPoint = some ⟨650, 1200, 50⟩ ∧ t.blade.commanded = 0 := by decide +kernel
/-- R37: RESUME runs on with the step's own set points. -/
theorem test_resume : let t := after (.resume .console) (held [fullStep])
    t.run.state = .running ∧ t.thermal.setPoint = some ⟨1000, 1200, 50⟩ ∧ t.blade.commanded = 4 := by
  decide +kernel
/-- R38: SKIP of the last step. -/
theorem test_skip : let t := after (.skip .console) (running [promptStep])
    t.run.state = .done ∧ t.outcomeAt 0 = some (.skipped, none) := by decide +kernel
/-- R41: ABORT keeps the cursor and marks the step ABORTED. -/
theorem test_abort : let t := after (.abort .console) (running [promptStep])
    t.run.state = .ready ∧ t.outcomeAt 0 = some (.aborted, none) ∧ t.log.isOpen = false := by decide +kernel
/-- R46: MANUAL SET of level 3. -/
theorem test_manualSet : let t := after (.manualSet .console 3 0 0 0) (able .idle)
    t.run.state = .manual ∧ t.blade.commanded = 3 := by decide +kernel
/-- R67: a second TARE is OK_PENDING. -/
theorem test_tare_pending :
    replyOf .console (after (.tare .console) (after (.tare .console) State.reset)) = some .okPending := by
  decide +kernel
/-- R138: BUDGET of 5,000 is stored as 3,600. -/
theorem test_setBudget : let t := after (.setBudget .console 5000) (inState .config)
    t.budget.watts = 3600 ∧ replyOf .console t = some .okClamped := by decide +kernel
/-- R161: KEY B without KEY A. -/
theorem test_keyB_alone :
    replyOf .safety (after (.leaseKeyB .safety) { State.reset with safety := safeBlock }) = some .sequence := by
  decide +kernel
/-- R161: KEY A and KEY B reload the count. -/
theorem test_key_pair :
    (after (.leaseKeyB .safety) (after (.leaseKeyA .safety)
      { State.reset with safety := { safeBlock with count := 1 } })).safety.count = 20 := by decide +kernel
/-- R156: SAFETY CLEAR under STOP_N. -/
theorem test_safetyClear_interlock :
    replyOf .safety (after (.safetyClear .safety) (State.powerOn false true)) = some .interlock := by
  decide +kernel
/-- R183: the Link port may not arm the lease. -/
theorem test_leaseArm_link :
    replyOf .link (after (.leaseArm .link 20 0) State.reset) = some .refusedClass := by decide +kernel
/-- R182: a frame whose length byte is wrong. -/
theorem test_badFrame :
    (after (.badFrame .console [2, 0x20] false) State.reset).bus.slots.console
      = ⟨some 0x20, some .badFrame, []⟩ := by decide +kernel

/-! ## Events -/

/-- R103: after 60.0 ms at 50 Hz. -/
theorem test_lossTimer :
    (after (.mainsZeroCrossing 20000) (after (.mainsZeroCrossing 20000) State.reset)).thermal.lossTimer
      = some (Config.us 100000) := by decide +kernel
/-- The chapter's window example: grant 912, duty 30. -/
theorem test_window : let s := running [fullStep]
    let t := after (.mainsZeroCrossing 20000) { s with
      thermal := { s.thermal with lastCrossing := some 0, setPoint := some ⟨1000, 1200, 50⟩ } }
    t.thermal.grant = 912 ∧ t.thermal.duty = 30 ∧ t.thermal.gate = false ∧ t.thermal.vent = .on := by
  decide +kernel
/-- R151: the third sample turns the line. -/
theorem test_filter : let s := { State.reset with safety := { safeBlock with lidClosed := ⟨true, 2⟩ } }
    let t := after (.lineFilterSample true true false) s
    t.safety.lidClosed = ⟨false, 0⟩ ∧ t.safety.heatPermit = ⟨true, 0⟩ := by decide +kernel
/-- R154: STOP_N halts a run. -/
theorem test_stopN : let t := after (.stopNAsserted 0) (running [fullStep])
    t.run.state = .halted ∧ t.safety.stopLatch = true ∧ t.outcomeAt 0 = some (.active, none) := by
  decide +kernel
/-- R163: the last tenth of an unlocked lease. -/
theorem test_leaseLapse : let s := running [fullStep]
    (after .leaseTick { s with safety := { safeBlock with count := 1 } }).run.state = .halted := by
  decide +kernel
/-- R164: the last tenth of a locked lease. -/
theorem test_lockedLeaseLapse :
    (after .lockedLeaseLapse { State.reset with
      safety := { safeBlock with count := 1, locked := true } }).run.state = .faulted := by decide +kernel
/-- R180: a write of three bytes to the Console address. -/
theorem test_write : let t := after (.writeEnd 0 [1, 0x20]) (after (.writeAddressPhase 0 0x44) State.reset)
    t.bus.queue = [⟨.console, [1, 0x20], false⟩] ∧ t.bus.writing = none := by decide +kernel
/-- R177: the Service address is disabled after power-on. -/
theorem test_write_service : (after (.writeAddressPhase 0 0x47) State.reset).bus.acknowledged = false := by
  decide +kernel
/-- 12.4: STATUS is 26 bytes long. -/
theorem test_read : ((after (.readAddressPhase 0 0x44 0) State.reset).bus.snapshot.map fun c => c.2.length)
    = some 26 := by decide +kernel
/-- R123: a cold base rises one level in 1/3 s, and the ramp goes on. -/
theorem test_ramp : let s := running [fullStep]
    let t := after .rampStep { s with
      thermal := { s.thermal with base := .valid 200, baseHistory := [200] }
      blade := { s.blade with
        stir := ⟨4, some .forward, .continuous⟩, commanded := 4, inverter := .driving, effective := 1
        ramp := some ⟨true, 5⟩ } }
    t.blade.effective = 2 ∧ t.blade.ramp = some ⟨true, 5 + Config.thirdSec⟩ := by decide +kernel
/-- R194: the third pulse ends the sequence. -/
theorem test_buzzer :
    (after .buzzerPhaseEnd { State.reset with aux := { Aux.reset with buzzer := some ⟨4, 9⟩ } }).aux.buzzer
      = none := by decide +kernel
/-- R194: a start during a pulse is counted from that start. -/
theorem test_buzzer_restart :
    ({ State.reset with now := 9, aux := { Aux.reset with buzzer := some ⟨0, 600000⟩ } }).startBuzzer.aux.buzzer
      = some ⟨0, 600009⟩ := by decide +kernel
/-- Section 7.4's example at 0.0 ms: the requests arrive together and SCALE is chosen, whatever comes first. -/
theorem test_together :
    let s := { State.reset with weigh := { Weigh.reset with freeDue := 0 } }
    let t := { s with blade := { s.blade with motorDue := 0 }, thermal := { s.thermal with timerDue := 0 } }
    let c := (after .freeClockTick (after .thermistorTimer (after .motorITimer t).requestMains)).converter
    c.work = .burst 4 0 ∧ c.mains = true ∧ c.base = true ∧ c.element = true ∧ c.cell = true ∧ c.motorI = true := by
  decide +kernel
/-- R134: samples converted before a first window do not count in it. -/
theorem test_accumulation_starts_empty : let s := running [fullStep]
    let t := after (.mainsZeroCrossing 20000) { s with
      thermal := { s.thermal with lastCrossing := some 0 }, blade := { s.blade with powerSum := 900, powerCount := 3 } }
    t.thermal.cycle = some 0 ∧ t.blade.powerSum = 0 ∧ t.blade.powerCount = 0 := by decide +kernel
/-- R180: the 41st data byte is not acknowledged. -/
theorem test_dataAnswers :
    (after (.writeEnd 0 (List.replicate 41 0)) (after (.writeAddressPhase 0 0x44) State.reset)).bus.dataAnswers
      = List.replicate 40 true ++ [false] := by decide +kernel
/-- R83, R86: a jump of 300 dg makes entry 1. -/
theorem test_log : let s := running [fullStep]
    ({ s with log := { s.log with refs := some ⟨100, 100, 100⟩ } }.logSettled 400).log.entries.map
      (fun e : Entry => (e.number, e.kind, e.delta)) = [(1, .added, 300)] := by decide +kernel

/-! ## States and operands that meet the hypotheses of the statements -/

/-- A running step whose outputs follow it, with a command in front. -/
def followed : State :=
  { ((running [fullStep, promptStep]).handHeat.handStir fullStep.stirPoint) with pending := [.pause .console] }

theorem meets_StepRunsTheFrontCommand :
    ({ State.reset with pending := [.timeDone, .overdue] } : State).pending = .timeDone :: [.overdue] ∧
    State.reset.pending = [] := by decide
theorem meets_EncodedFramesDecode :
    (Instr.putStep .console 0 (List.replicate 37 0)).wellFormed = true ∧
    frameOf (.putStep .console 0 (List.replicate 37 0))
      = some (.console, 0x27 :: 0x50 :: 0 :: List.replicate 37 0) := by decide +kernel
theorem meets_DecodedFramesReencode :
    ([0x02, 0x30, 0x05] : List Byte).length ≤ 40 ∧
    decodeFrame .console true [0x02, 0x30, 0x05] = some (.confirm .console 5) := by decide
theorem meets_StepKeepsTablesAndQueue :
    (∃ t, step followed = .next t) ∧ followed.program.Sound ∧ followed.bus.Bounded ∧ followed.aux.Sound :=
  ⟨⟨_, rfl⟩, by decide +kernel⟩
theorem meets_StepKeepsRunSound : (∃ t, step followed = .next t) ∧ followed.RunSound :=
  ⟨⟨_, rfl⟩, by decide +kernel⟩
/-- The same run with a grant of 912 W in force and the gate firing. -/
def heated : State :=
  { followed with
    thermal := { followed.thermal with cycle := some 1, grant := 912, duty := 30, gate := true }
    pending := [.mainsZeroCrossing 20000] }
theorem meets_StepKeepsHeaterGuarded :
    (∃ t, step heated = .next t) ∧ heated.HeaterGuarded ∧ heated.GrantBounded ∧ 0 < heated.thermal.grant :=
  ⟨⟨_, rfl⟩, by decide +kernel⟩
/-- The same run with the blade at level 2. -/
def stirred : State :=
  { followed with
    blade := { followed.blade with inverter := .driving, effective := 2, ramp := some ⟨true, 9⟩ }
    pending := [.rampStep] }
theorem meets_StepKeepsMotorGuarded :
    (∃ t, step stirred = .next t) ∧ stirred.MotorGuarded ∧ stirred.BladeGuarded ∧
      stirred.blade.commanded = 4 := ⟨⟨_, rfl⟩, by decide +kernel⟩
theorem meets_StepKeepsSafetySound : (∃ t, step followed = .next t) ∧ followed.SafetySound :=
  ⟨⟨_, rfl⟩, by decide +kernel⟩
theorem meets_StepKeepsMassesAndLog :
    (∃ t, step followed = .next t) ∧ followed.weigh.Sound ∧ followed.log.Balanced ∧ followed.log.Numbered :=
  ⟨⟨_, rfl⟩, by decide +kernel⟩
theorem meets_StepKeepsNoticesOrdered :
    let s := { (followed.send .prompt (some 0) none).send .runDone none none with pending := followed.pending }
    (∃ t, step s = .next t) ∧ s.NoticesOrdered ∧ s.notices.console.entries.length = 2 :=
  ⟨⟨_, rfl⟩, by decide +kernel⟩
/-- A notice of a kind about a step. -/
def noticeOf (kind : NoticeKind) (step : Nat) : Notice :=
  { kind := kind, index := some step, count := 1, time := 0, value := none }
/-- A list of `n` notices of one kind, about steps 0 to n − 1. -/
def listOf (kind : NoticeKind) (n : Nat) : NoticeList :=
  ⟨0xFFFF, (List.range n).map (noticeOf kind), false⟩
theorem meets_StepKeepsNoticesOrdered_offers :
    (⟨0x0000, [], false⟩ : NoticeList).subscription.getLsbD NoticeKind.held.code = false ∧
    ((listOf .held 12).entries = [] ++ noticeOf .held 0 :: ((listOf .held 12).entries.drop 1) ∧
      (([] ++ (listOf .held 12).entries.drop 1).all fun x => x.index != some 0) = true) ∧
    ((listOf .held 11).entries.length < 12 ∧
      (listOf .held 11).entries = (listOf .held 11).entries ++ [] ∧
      NoticeKind.stall.priority ≤ NoticeKind.held.priority) ∧
    (12 ≤ (listOf .held 12).entries.length ∧ (listOf .held 12).entries.getLast? = some (noticeOf .held 11) ∧
      NoticeKind.stall.priority ≤ NoticeKind.held.priority ∧
      NoticeKind.held.priority < NoticeKind.prompt.priority ∧
      (listOf .held 12).entries.dropLast = [] ++ (listOf .held 11).entries) := by decide +kernel
theorem meets_StepKeepsOutputsFollowing :
    (∃ t, step followed = .next t) ∧ followed.RunSound ∧ followed.OutputsFollow :=
  ⟨⟨_, rfl⟩, by decide +kernel⟩
theorem meets_StoppedStatesAreLeftByTheirCommands :
    ((∃ t, exec (.pause .console) (inState .faulted) = .next t) ∧ (inState .faulted).run.state = .faulted ∧
      (∀ p, Instr.pause .console ≠ .warmReset p) ∧ ∀ a n, Instr.pause .console ≠ .powerOnReset a n) ∧
    (∃ t, exec (.resume .console) (inState .halted) = .next t) ∧ (inState .halted).run.state = .halted ∧
      (∀ p, Instr.resume .console ≠ .abort p) ∧ (∀ p, Instr.resume .console ≠ .warmReset p) ∧
      ∀ a n, Instr.resume .console ≠ .powerOnReset a n := by
  refine ⟨⟨⟨_, rfl⟩, rfl, ?_, ?_⟩, ⟨_, rfl⟩, rfl, ?_, ?_, ?_⟩ <;> intros <;> simp
theorem meets_SafetyClassNeedsTheSafetyPort :
    (codeAndParams (.safetyStop .link) = some (.link, 0xC4, []) ∧ classOf 0xC4 = 12 ∧
      (Instr.safetyStop .link).wellFormed = true ∧ State.reset.offers (.safetyStop .link) = true) ∧
    codeAndParams (.safetyStop .safety) = some (.safety, 0xC4, []) ∧
      State.reset.offers (.safetyStop .safety) = true ∧
      (State.reset.taken (.safetyStop .safety)).run.state ≠ .faulted := by decide +kernel
theorem meets_RefusedFramesChangeTheReplyAlone :
    (Frame.isBad ⟨.console, [2, 0x20], false⟩ = true ∧
      (State.reset.takeFrame ⟨.console, [2, 0x20], false⟩).isSome = true) ∧
    (Instr.tare .link).wellFormed = true ∧ codeAndParams (.tare .link) = some (.link, 0x70, []) ∧
    ({ State.reset with bus := { State.reset.bus with writing := some .console } } : State).offers (.tare .link)
      = false ∧
    (State.reset.offers (.tare .link) = true ∧
      (State.reset.taken (.tare .link)).bus.accepts .link (classOf 0x70) = false) ∧
    (codeAndParams (.tare .console) = some (.console, 0x70, []) ∧
      (inState .faulted).offers (.tare .console) = true ∧
      ((inState .faulted).taken (.tare .console)).bus.accepts .console (classOf 0x70) = true ∧
      ((inState .faulted).taken (.tare .console)).run.state = .faulted ∧ classOf 0x70 ≠ 0 ∧ classOf 0x70 ≠ 1) := by
  decide +kernel
theorem meets_ViewAndNoticeCommandsActForTheSender :
    (State.reset.reaches (.selectView .console 8 0) = true ∧ View.ofCode 8 = none) ∧
    (State.reset.reaches (.selectView .console 2 48) = true ∧ View.ofCode 2 = some .step) ∧
    (State.reset.reaches (.selectView .console 7 47) = true ∧ View.ofCode 7 = some .config) ∧
    (State.reset.reaches (.takeNotice .console) = true ∧ State.reset.notices.console.entries = []) ∧
    (let s := State.reset.send .runDone none none
     s.reaches (.takeNotice .console) = true ∧
     (s.taken (.takeNotice .console)).notices.console.entries.length = 1) ∧
    State.reset.reaches (.setSubscription .service 0xFFFF) = false ∧
    State.reset.reaches (.setSubscription .link 0xFFFF) = true := by decide +kernel
theorem meets_PauseHoldsTheRun :
    ((inState .done).reaches (.pause .console) = true ∧ (inState .done).run.state.inRun = false) ∧
    ((held [fullStep]).reaches (.pause .console) = true ∧ (held [fullStep]).run.causes.pause = true) ∧
    (running [fullStep]).reaches (.pause .console) = true ∧ (running [fullStep]).run.state.inRun = true ∧
      (running [fullStep]).run.causes.pause = false := by decide +kernel
theorem meets_ConfirmLatchesConfirmed_ends :
    promptStep.endMode = .any ∧ allStep.endMode = .all ∧
    ((allStep.heat.isSome = true → Condition.tempReached ∈ [.weightMet, .tempReached, .timeDone, .confirmed]) ∧
      Condition.weightMet ∈ [Condition.weightMet, .tempReached, .timeDone, .confirmed]) ∧
    ¬ (allStep.time.isSome = true → Condition.timeDone ∈ [Condition.weightMet, .tempReached, .confirmed]) := by
  decide +kernel
theorem meets_ConfirmLatchesConfirmed :
    ((running [promptStep]).reaches (.confirm .console 1) = true) ∧
    (let s := running [{ promptStep with prompt := none, time := some ⟨1, .fromEntry⟩ }]
     s.reaches (.confirm .console 0) = true ∧ s.record.isSome = true ∧ s.run.phase = .active) ∧
    (let s := running [allStep]
     s.reaches (.confirm .console 0) = true ∧ s.record = some allStep ∧ allStep.ends [.confirmed] = none) ∧
    (let s := running [promptStep]
     s.reaches (.confirm .console 0) = true ∧ s.record = some promptStep ∧ s.run.state = .running ∧
     .confirmed ∉ s.run.met ∧ promptStep.ends [.confirmed] = some .confirm ∧
     s.run.cursor < s.program.results.length) := by decide +kernel
theorem meets_StartBeginsARun :
    ((inState .idle).reaches (.start .console) = true) ∧
    (let s := { withSteps .ready [promptStep] with safety := { safeBlock with stopLatch := true } }
     s.reaches (.start .console) = true ∧ s.safety.stopLatch = true) ∧
    (let s := withSteps .done [promptStep]
     s.reaches (.start .console) = true ∧ s.safety.stopLatch = false ∧ 0 < s.program.length ∧
     s.marked 0 = false ∧ s.program.steps[0]? = some promptStep) ∧
    (let s := withSteps .ready [promptStep]
     let m := { s with program := { s.program with hold1 := some 0 } }
     m.reaches (.start .console) = true ∧ m.safety.stopLatch = false ∧ m.marked 0 = true) := by decide +kernel
theorem meets_ResumeReleasesTheRun :
    ((running [promptStep]).reaches (.resume .console) = true) ∧
    (let s := held [promptStep]
     let l := { s with run := { s.run with causes := { mains := true, ack := true } } }
     l.reaches (.resume .console) = true ∧ l.run.causes.hasInterlock = true) ∧
    (let s := held [promptStep]
     let b := { s with run := { s.run with phase := .beforeEntry } }
     b.reaches (.resume .console) = true ∧ b.run.causes.hasInterlock = false ∧ b.record = some promptStep ∧
     b.run.cursor < b.program.results.length) ∧
    (let s := held [promptStep]
     s.reaches (.resume .console) = true ∧ s.record = some promptStep ∧ s.run.phase = .active ∧
     promptStep.ends s.run.met = none) ∧
    (let s := held [promptStep]
     let m := { s with run := { s.run with met := [.confirmed] } }
     m.reaches (.resume .console) = true ∧ promptStep.ends m.run.met = some .confirm) := by decide +kernel
theorem meets_SkipPassesTheStep :
    ((inState .ready).reaches (.skip .console) = true) ∧
    ((running [promptStep]).reaches (.skip .console) = true ∧
      (running [promptStep]).program.length ≤ (running [promptStep]).run.cursor + 1) ∧
    ((held [promptStep, fullStep]).reaches (.skip .console) = true ∧
      (held [promptStep, fullStep]).run.cursor + 1 < (held [promptStep, fullStep]).program.length) ∧
    (let s := running [promptStep, fullStep]
     s.reaches (.skip .console) = true ∧ s.run.state = .running ∧ s.run.causes = {} ∧
     s.run.cursor + 1 < s.program.length ∧ s.run.cursor + 1 < s.program.results.length ∧
     s.marked (s.run.cursor + 1) = false ∧
     ({ s with program := { s.program with hold0 := some 1 } } : State).marked (s.run.cursor + 1) = true) := by
  decide +kernel
theorem meets_AbortEndsTheRun :
    ((inState .config).reaches (.abort .console) = true) ∧
    (∀ s ∈ [running [promptStep], held [promptStep], inState .halted, inState .manual],
      s.reaches (.abort .console) = true ∧ s.run.cursor < s.program.results.length) := by decide +kernel
/-- A written record with every part, each number at a bound. -/
def written : WrittenRecord :=
  { label := 1, flags := 0x0D, limit := 14400, heat := some (300, 1500, 0), stir := some (4, 0x05, 60, 1)
    weigh := some (100000, 5000), time := some (1, 1), prompt := some 255 }
theorem meets_PutStepStoresTheRecord_reads :
    (written.faulty = false ∧ written.needsClamp = false ∧ written.stored.inRange) ∧
    ({ written with limit := 14401 } : WrittenRecord).needsClamp = true ∧
    ({ written with heat := none } : WrittenRecord).faulty = true ∧
    ([1, 0, 0, 0] : List Byte).length < 5 ∧ 32 ≤ (0x20 : Byte).toNat ∧ ([7, 7] : List Byte).length ≠ 1 := by
  decide +kernel
theorem meets_PutStepStoresTheRecord :
    let i := Instr.putStep .console 0 [1, 0, 0, 0, 16, 7]
    (∀ s ∈ [inState .idle, inState .config, running [promptStep], withSteps .done [promptStep]],
      s.reaches i = true) ∧
    (withSteps .ready (List.replicate 48 promptStep)).reaches (.putStep .console 48 [1, 0, 0, 0, 16, 7]) = true ∧
    (inState .idle).reaches (.putStep .console 1 [1, 0, 0, 0, 0]) = true := by decide +kernel
theorem meets_DeleteAndClearShrinkTheTable :
    (∀ s ∈ [inState .config, running [promptStep], inState .idle, withSteps .ready [promptStep, fullStep]],
      s.reaches (.deleteStep .console 0) = true ∧ s.reaches (.clearProgram .console) = true) ∧
    (withSteps .ready [promptStep, fullStep]).program.length ≤ 48 ∧
    (withSteps .ready [promptStep, fullStep]).program.results.length = 48 := by decide +kernel
theorem meets_HoldPointCommandsSetTheSlots :
    (∀ s ∈ [inState .config, running [promptStep], withSteps .ready [promptStep]],
      ([0, 1, 2] : List Byte).all (fun slot => s.reaches (.setHoldPoint .console slot 0) &&
        s.reaches (.clearHoldPoint .console slot)) = true) := by decide +kernel
theorem meets_TareIsRequestedAndForced :
    ((inState .config).reaches (.tare .console) = true ∧ (inState .idle).reaches (.tare .console) = true) ∧
    ({ Weigh.reset with tareTimer := some 5, recent := [3, 1, 2] } : Weigh).tareTimer = some 5 := by
  decide +kernel
theorem meets_BurstGivesOneSample :
    ([(0, 0)] : List (Tri × Tri)) ≠ [] ∧
    ({ State.reset with converter := { Converter.reset with work := .burst 1 7 } } : State).converter.work
      = .burst ([(0, 0)] : List (Tri × Tri)).length 7 ∧
    State.reset.run.state.inRun = false ∧ State.reset.log.isOpen = false ∧
    stableMedian { Weigh.reset.policy with still := 20 } .still (pushLast 3 [0, 20] 0) = some 0 ∧
    (running [fullStep]).log.isOpen = true := by decide +kernel
theorem meets_SettledValuesMakeTheLog :
    State.reset.log.isOpen = false ∧
    ((running [promptStep]).log.isOpen = true ∧ (running [promptStep]).log.refs = none) ∧
    (let s := running [promptStep]
     let l := { s with log := { s.log with refs := some ⟨0, 0, 0⟩ } }
     l.log.isOpen = true ∧ l.log.refs = some ⟨0, 0, 0⟩ ∧ l.log.exhausted = false ∧
     (0 : Int) < l.weigh.policy.threshold ∧ (l.weigh.policy.threshold : Int) ≤ 50 - 0 ∧
     ¬ (l.weigh.policy.threshold : Int) ≤ 49 - 0) ∧
    ({ IngredientLog.cleared with
        isOpen := true, refs := some ⟨0, 0, 0⟩, exhausted := true, nextNumber := 65535 }
      : IngredientLog).exhausted = true := by decide +kernel
theorem meets_WeighStepWatchesItsTarget :
    let s := running [fullStep]
    let m := { s with weigh := { s.weigh with settled := some 1950 } }
    s.activeRecord = some fullStep ∧ fullStep.weigh = some ⟨2000, 50⟩ ∧ s.weigh.settled = none ∧
      m.activeRecord = some fullStep ∧ m.weigh.settled = some 1950 ∧ m.weigh.tareTimer = none ∧
      (2000 : Int) - 50 ≤ min (1950 - m.weigh.tare) 200000 ∧ min (1949 - m.weigh.tare) 200000 < 2000 - 50 ∧
      .weightMet ∉ m.run.met ∧ fullStep.ends [.weightMet] = some .weight ∧ allStep.ends [.weightMet] = none ∧
      m.program.results[m.run.cursor]? = some .entered := by decide +kernel
theorem meets_ManualOperationStartsAndEnds :
    (∀ s ∈ [inState .config, inState .idle, able .idle, able .manual, running [promptStep]],
      s.reaches (.manualSet .console 13 1 1601 1501) = true ∧ s.reaches (.manualSet .console 0 0 0 0) = true ∧
      s.reaches (.manualSet .console 0 2 0 0) = true ∧ s.reaches (.manualStop .console) = true) ∧
    (State.powerOn false true).reaches (.manualSet .console 1 0 0 0) = true := by decide +kernel
theorem meets_ConfigIsEnteredAndLeft :
    (∀ s ∈ [inState .idle, withSteps .ready [promptStep], withSteps .done [promptStep], inState .halted],
      s.reaches (.enterConfig .console) = true ∧ s.reaches (.leaveConfig .console) = true) ∧
    (inState .config).reaches (.leaveConfig .console) = true := by decide +kernel
theorem meets_SettingsAreStoredInConfig :
    ∀ s ∈ [inState .config, inState .idle],
      ([599, 600, 3600, 3601] : List Half).all (fun w => s.reaches (.setBudget .console w)) = true ∧
      s.reaches (.loadHeaterData .console 1999 2001 4000) = true ∧
      s.reaches (.loadScaleCalibration .console 0x800000 0 1001 601) = true ∧
      s.reaches (.setScalePolicy .console 3 0 5 10 20) = true ∧
      s.reaches (.setScalePolicy .console 8 2 500 1000 2000) = true ∧
      s.reaches (.setLineFilter .console 16) = true ∧ s.reaches (.setLineFilter .console 2) = true := by
  decide +kernel
theorem meets_ThermistorTableLoadsInTwoFrames :
    let first : List RawPoint := List.replicate 9 (5, 6)
    let second : List RawPoint := List.replicate 8 (5, 6)
    (∀ s ∈ [inState .config, inState .idle],
      ([0, 1] : List Byte).all (fun h => s.reaches (.loadThermistorTableFirst .console h first) &&
        s.reaches (.loadThermistorTableSecond .console h second)) = true) ∧
    (let c := inState .config
     let s := { c with bus := { c.bus with staging := some (.console, first) } }
     s.reaches (.loadThermistorTableSecond .console 1 second) = true ∧
     (s.taken (.loadThermistorTableSecond .console 1 second)).bus.staging = some (.console, first)) := by
  decide +kernel
theorem meets_PortSettingsKeepAWayOutOfConfig :
    ∀ s ∈ [inState .config, inState .idle],
      s.reaches (.setAcceptance .console 0 1 0 8 3) = true ∧ s.reaches (.setAcceptance .console 3 0 1 15 15) = true ∧
      s.reaches (.setAcceptance .console 4 0 0 0 0) = true ∧
      portOfCode 0 = some .console ∧ portOfCode 3 = some .service ∧
      ([0, 1, 2] : List Byte).all (fun c => s.reaches (.setService .console c)) = true := by decide +kernel
theorem meets_LineCommandsSetFunctionAndLatch :
    ∀ s ∈ [inState .config, inState .idle],
      s.reaches (.setLineFunction .console 5 6 false) = true ∧ LineFunction.ofCode 6 = some .scaleTrigIn ∧
      s.reaches (.setLineFunction .console 8 1 false) = true ∧
      s.reaches (.setLineFunction .console 0 8 false) = true ∧ (s.aux.lines[5]?).isSome = true ∧
      s.reaches (.setLineLevel .console 7 1 true) = true ∧ s.reaches (.setLineLevel .console 8 0 true) = true ∧
      (s.aux.lines[7]?).isSome = true := by decide +kernel
theorem meets_WarmResetKeepsTheSettings :
    ∀ s ∈ [State.reset, running [promptStep], inState .faulted], s.reaches (.warmReset .console) = true := by
  decide +kernel
theorem meets_LeaseIsArmedAndDisarmed :
    let locked := { State.reset with safety := { safeBlock with locked := true } }
    let lapsed := { State.reset with safety := { safeBlock with lease := .lapsed, count := 0 } }
    ∀ s ∈ [State.reset, running [fullStep], locked, lapsed],
      ([0, 1, 2] : List Byte).all (fun l => ([4, 5, 80, 81] : List Byte).all fun n =>
        s.reaches (.leaseArm .safety n l)) = true ∧
      s.reaches (.leaseDisarm .safety) = true ∧
      ((running [fullStep]).stepNeedsHeat = true ∧ (running [fullStep]).RunSound) := by decide +kernel
theorem meets_KeyPairRefreshesTheLease :
    let key := { State.reset with safety := { safeBlock with keySequence := true } }
    ∀ s ∈ [State.reset, key], s.reaches (.leaseKeyA .safety) = true ∧ s.reaches (.leaseKeyB .safety) = true := by
  decide +kernel
theorem meets_StopLatchHaltsThePart :
    (running [fullStep]).safety.stopLatch = false ∧ (State.powerOn false true).safety.stopLatch = true ∧
    ∀ s ∈ [running [fullStep], State.reset, State.powerOn false true],
      s.reaches (.safetyStop .safety) = true := by decide +kernel
theorem meets_LatchIsClearedAndLimitIsSet :
    ((State.powerOn false true).reaches (.safetyClear .safety) = true ∧
      (State.powerOn false true).safety.stopN = true) ∧
    (State.reset.reaches (.safetyClear .safety) = true ∧ State.reset.safety.stopN = false) ∧
    heated.reaches (.safetyLimit .safety 911) = true ∧ heated.reaches (.safetyLimit .safety 99) = true ∧
    heated.reaches (.safetyLimit .safety 2001) = true := by decide +kernel
theorem meets_LeaseCountsDownAndLapses :
    State.reset.safety.lease ≠ .live ∧ (safeBlock.lease = .live ∧ 2 ≤ safeBlock.count) ∧
    (let s := running [fullStep]
     let u := { s with safety := { safeBlock with count := 1 } }
     let l := { s with safety := { safeBlock with count := 1, locked := true } }
     (u.safety.lease = .live ∧ u.safety.count ≤ 1 ∧ u.safety.locked = false) ∧
     l.safety.lease = .live ∧ l.safety.count ≤ 1 ∧ l.safety.locked = true) := by decide +kernel
theorem meets_LineSamplesAreFiltered :
    let s := running [fullStep]
    let l := { s with safety := { safeBlock with lidClosed := ⟨true, 2⟩ } }
    l.safety.lidClosed.active = true ∧ ¬ l.safety.lidClosed.count < 2 ∧ l.stepActive = true ∧ l.RunSound ∧
      l.HeaterGuarded ∧ State.reset.run.state.inRun = false ∧ State.reset.run.state ≠ .manual ∧
      l.record = some fullStep ∧ State.reset.stepActive = false ∧ (able .manual).run.state = .manual ∧
      ({ safeBlock with heatPermit := ⟨true, 2⟩ } : Safety).heatPermit.active = true ∧
      ({ safeBlock with motionPermit := ⟨false, 2⟩ } : Safety).motionPermit.active = false := by
  decide +kernel
theorem meets_WritesJoinTheQueue :
    State.reset.bus.writing = none ∧
    (State.reset.bus.enabled .console = true ∧ State.reset.bus.addressOf .console = (0x44#7).toNat) ∧
    (∀ p ∈ [Port.console, .safety, .link, .service], State.reset.bus.enabled p = true →
      State.reset.bus.addressOf p ≠ (0x47#7).toNat) ∧
    ({ State.reset.bus with writing := some .link } : Bus).writing = some .link ∧
    (List.replicate 40 (0 : Byte)) ≠ [] ∧ 40 < (List.replicate 41 (0 : Byte)).length := by decide +kernel
theorem meets_ReadsCaptureTheView :
    (State.reset.bus.enabled .safety = true ∧ State.reset.bus.addressOf .safety = (0x45#7).toNat) ∧
    (State.powerOn true false).bus.addressOf .link = (0x66#7).toNat ∧ State.reset.aux.lines.length = 8 ∧
    State.reset.thermal.table.length = 17 ∧ 25 < ((State.reset.viewBytes .console).length) ∧
    (withSteps .ready [fullStep]).program.steps[0]? = some fullStep ∧ State.reset.program.steps[47]? = none ∧
    State.reset.program.results[47]? = some .cleared ∧ State.reset.bus.highBase = false ∧
    (State.powerOn true false).bus.highBase = true ∧
    (∀ p ∈ [Port.console, .safety, .link, .service], State.reset.bus.enabled p = true →
      State.reset.bus.addressOf p ≠ (0x43#7).toNat) := by decide +kernel
theorem meets_RunTimeDrivesTheStep :
    let s := running [fullStep]
    let d := { s with run := { s.run with active := 10 } }
    let l := { s with run := { s.run with active := 20 } }
    (d.record = some fullStep ∧ fullStep.time = some ⟨1, .fromEntry⟩ ∧ d.run.state = .running ∧
      d.run.phase = .active ∧ d.run.countRose = true ∧ .timeDone ∉ d.run.met ∧ 1 * 10 ≤ d.run.active ∧
      fullStep.ends [.timeDone] = some .time ∧ allStep.ends [.timeDone] = none ∧
      d.run.cursor < d.program.results.length) ∧
    (s.run.active < 1 * 10 ∧ l.record = some fullStep ∧ fullStep.limit = some 2 ∧ 2 * 10 ≤ l.run.active ∧
      l.run.overdueTaken = false ∧ l.run.causes.overdue = false ∧ d.run.active < 2 * 10) := by decide +kernel
theorem meets_ConverterServesByPriority :
    Converter.reset.work = .free ∧ ({ Converter.reset with scale := some 4 } : Converter).scale = some 4 ∧
    (converting State.reset .cell true 9).converter.work = .single .cell true 9 ∧
    (converting State.reset .motorI true 9).converter.work = .single .motorI true 9 ∧
    ({ Converter.reset with chosenAt := some 5, work := .burst 4 5 } : Converter).chosenAt = some 5 ∧
    ({ Converter.reset with chosenAt := some 5, work := .single .mains false 9 } : Converter).work
      = .single .mains false 9 ∧
    (let s : State := { State.reset with blade := { Blade.reset with motorDue := 300000 } }
     s.converter.work = .free ∧ max s.now s.thermal.timerDue = max s.now s.blade.motorDue ∧
     (∃ t, exec .thermistorTimer s = .next t) ∧ ∃ t, exec .motorITimer s = .next t) ∧
    ∀ live ends, State.reset.converter.work ≠ .single .base live ends := by
  refine ⟨rfl, rfl, rfl, rfl, rfl, rfl, ⟨rfl, rfl, ⟨_, rfl⟩, ⟨_, rfl⟩⟩, fun _ _ => ?_⟩
  simp [State.reset, State.powerOn, Converter.reset]
theorem meets_CodesAreConvertedByTheTable :
    Config.nominalTable.length = 17 ∧ tableInOrder Config.nominalTable = true ∧
    Config.nominalTable.head? = some (128, 3200) ∧ 127 < 128 ∧ Config.nominalTable.getLast? = some (3840, -250) ∧
    3840 < 3841 ∧ Config.nominalTable[0]? = some (128, 3200) ∧ Config.nominalTable[0 + 1]? = some (256, 2400) ∧
    128 ≤ 255 ∧ 255 < 256 ∧ Config.nominalTable[15]? = some (3584, -60) ∧
    Config.nominalTable[15 + 1]? = some (3840, -250) ∧
    (∀ q ∈ Config.nominalTable, q.1 ≤ 4095 ∧ -500 ≤ q.2 ∧ q.2 ≤ 4000) := by decide
theorem meets_BaseCodesFormTheBaseTemperature :
    let s := converting (running [fullStep]) .base true 9
    s.converter.work = .single .base true 9 ∧ readingOf s.thermal.table 127 = .invalid ∧
      s.thermal.base ≠ .invalid ∧ s.stepNeedsHeat = true ∧ s.RunSound ∧
      (converting State.reset .base true 9).run.state.inRun = false ∧
      (s.outcomeAt s.run.cursor).map Prod.fst = some .active := by decide +kernel
theorem meets_ElementCodesGuardTheElement :
    let s := converting (running [fullStep]) .element true 9
    s.converter.work = .single .element true 9 ∧ readingOf s.thermal.table 3841 = .invalid ∧
      s.thermal.element ≠ .invalid ∧ s.thermal.hot = false ∧ readingOf s.thermal.table 160 = .valid 3000 ∧
      readingOf s.thermal.table 208 = .valid 2700 := by decide +kernel
theorem meets_MainsCodesGiveTheMainsState :
    let s := converting (running [fullStep]) .mains true 9
    (s.converter.work = .single .mains true 9 ∧ s.stepActive = true ∧ s.RunSound ∧ s.thermal.mains = .present) ∧
    (converting State.reset .mains false 9).converter.work = .single .mains false 9 ∧
    (let l := converting State.reset .mains true 9
     l.thermal.mains = .lost ∧ l.blade.inverter = .off ∧ l.blade.lastPulse = none ∧
     l.run.state.inRun = false) := by decide +kernel
theorem meets_LostMainsAbandonsTheWindow :
    let s := running [fullStep]
    State.reset.thermal.lossTimer = none ∧ State.reset.thermal.mains = .lost ∧
      ({ s.thermal with lossTimer := some 5 } : Thermal).lossTimer = some 5 ∧ s.thermal.mains ≠ .lost ∧
      s.stepActive = true ∧ s.RunSound ∧ (able .idle).thermal.mains ≠ .lost ∧
      (able .idle).run.state.inRun = false ∧ (able .manual).thermal.mains ≠ .lost ∧
      (able .manual).run.state = .manual := by decide +kernel
theorem meets_HeaterRequestFollowsTheControlLaw :
    ((50 : Nat) : Int) ≤ ((1000 : Nat) : Int) - 950 ∧ ((1000 : Nat) : Int) - 951 < (50 : Nat) ∧
    (0 : Int) < ((1000 : Nat) : Int) - 999 ∧ ((1000 : Nat) : Int) - 1000 ≤ 0 := by decide
theorem meets_CrossingsDriveTheWindow :
    let s := running [fullStep]
    let c := { s with thermal := { s.thermal with lastCrossing := some 0, cycle := some 48 } }
    let e := { s with thermal := { s.thermal with lastCrossing := some 0, cycle := some 49 } }
    (s.thermal.lastCrossing = none ∧ s.thermal.cycle = none) ∧
    ((∃ x ∈ c.thermal.lastCrossing, 46155 ≤ c.now + 3 * 15385 - x ∧ c.now + 3 * 22222 - x ≤ 66666) ∧
      c.thermal.cycle = some 48 ∧ 48 + 1 < 50) ∧
    (∃ x ∈ e.thermal.lastCrossing, 46155 ≤ e.now + 3 * 20000 - x ∧ e.now + 3 * 20000 - x ≤ 66666) ∧
      e.thermal.cycle = some 49 ∧ 50 ≤ 49 + 1 ∧ State.reset.stepActive = false ∧
      (let n := { s with thermal := { s.thermal with base := .valid 990, baseHistory := [990] } }
       n.activeRecord = some fullStep ∧ fullStep.heat = some ⟨1000, 1200, 50⟩ ∧ n.thermal.tb = some 990 ∧
       (1000 : Int) - 10 ≤ 990 ∧ (989 : Int) < 1000 - 10 ∧ .tempReached ∉ n.run.met ∧
       fullStep.ends [.tempReached] = some .temp ∧ allStep.ends [.tempReached] = none ∧
       n.run.cursor < n.program.results.length) := by decide +kernel
theorem meets_WindowEndJudgesTheBudget :
    let s := running [fullStep]
    let b := { s with
      blade := { s.blade with powerSum := 1961, powerCount := 1 }
      budget := { s.budget with overCount := 2, peak := 2 } }
    let u := { s with
      blade := { s.blade with powerSum := 1567, powerCount := 1 }
      budget := { s.budget with ceiling := some 3, underCount := 4 } }
    (b.budget.watts - 40 < 1961 ∧ 2 ≤ b.budget.overCount ∧ 2 ≤ b.budget.peak) ∧
    (¬ s.budget.watts - 40 < 1960 ∧ s.budget.overCount < 2 ∧ s.budget.ceiling = none) ∧
    u.budget.ceiling = some 3 ∧ 10 * 1567 < 8 * (u.budget.watts - 40) ∧ ¬ 10 * 1568 < 8 * (u.budget.watts - 40) ∧
      4 ≤ u.budget.underCount := by decide +kernel
theorem meets_PulsesGiveTheActualSpeed :
    let s := State.reset
    let p := { s with now := 20000, blade := { s.blade with lastPulse := some 5000, lastPeriod := some 10 } }
    let r := { s with now := 20000, blade := { s.blade with roseAt := some 5000 } }
    s.blade.lastPulse = none ∧ p.blade.lastPulse = some 5000 ∧ 5000 + 15000 ≤ p.now + 3 * 0 ∧
      p.now ≤ 5000 + 9000000 ∧ r.blade.lastPulse = none ∧ r.blade.roseAt = some 5000 ∧
      5000 + 15000 ≤ r.now + 3 * 0 ∧ p.blade.lastPeriod = some 10 := by decide +kernel
theorem meets_BladeTimersMoveTheBlade :
    stirred.blade.ramp = some ⟨true, 9⟩ ∧ State.reset.blade.ramp = none ∧
    ({ stirred.blade with patternTimer := some 5, stir := ⟨4, none, .interval 1 60⟩ } : Blade).patternTimer
      = some 5 ∧
    ({ stirred.blade with halfTimer := some 5 } : Blade).halfTimer = some 5 ∧
    ({ stirred with blade := { stirred.blade with inverter := .braking } } : State).waitsForRest = true ∧
    (State.reset.blade.inverter = .off ∧ State.reset.thermal.mains = .lost) ∧
    (let s := { followed with
       blade := { followed.blade with
         settle := some 900000, inverter := .driving, ramp := none, effective := 0 } }
     (let r := { s with
        aux := { s.aux with lines := [⟨.lidLock, false, false⟩], lockEngaged := true, lockedAt := 0 }
        blade := { s.blade with effective := 1, ramp := some ⟨false, 9⟩, settle := none
                                direction := .reverse, wantDirection := some .forward } }
      let t := after .rampStep r
      t.blade.inverter = .driving ∧ t.blade.effective = 0 ∧ t.blade.effective < t.targetLevel ∧
      t.now < t.aux.lockedAt + 900000) ∧
     (after .rampStep stirred).blade.effective < (after .rampStep stirred).targetLevel ∧
     s.blade.settle = some 900000 ∧ s.aux.lockEngaged = true ∧ s.aux.lockedAt + 900000 ≤ 900000 ∧
     0 < (after .lidLockSettleEnd s).targetLevel) := by decide +kernel
/-- The same run, or manual operation, with the stall timer running. -/
def stalling (s : State) : State := { s with blade := { s.blade with stallTimer := some 5 } }
theorem meets_StallReleasesTheBlade :
    ((stalling stirred).RunSound ∧ (stalling stirred).blade.stallTimer = some 5 ∧
      (stalling stirred).run.state = .running) ∧ State.reset.blade.stallTimer = none := by decide +kernel
theorem meets_StallReleasesTheBlade_manual :
    (stalling (able .manual)).RunSound ∧ (stalling (able .manual)).blade.stallTimer = some 5 ∧
      (able .manual).run.state = .manual := by decide +kernel
theorem meets_StallReleasesTheBlade_rest :
    (stalling State.reset).RunSound ∧ (stalling State.reset).blade.stallTimer = some 5 := by decide +kernel
theorem meets_SmallTimersRunOut :
    State.reset.blade.commanded = 0 ∧
    ({ Thermal.reset with vent := .runout 5 } : Thermal).vent = .runout 5 ∧
    (∀ moment, State.reset.thermal.vent ≠ .runout moment) ∧
    ({ Aux.reset with buzzer := some ⟨4, 5⟩ } : Aux).buzzer = some ⟨4, 5⟩ ∧ State.reset.aux.buzzer = none := by
  refine ⟨rfl, rfl, fun _ => ?_, rfl, rfl⟩
  simp [State.reset, State.powerOn, Thermal.reset]

end Sys2Proof.Tests
end

section
/-! SUPPORT. Chapter 5, what the thermal unit computes from a code and from an error: the conversion of R96 over
the tables that R95 admits, and the control law of R107. -/

namespace Sys2Proof.Machine

/-! ## Rounding (Conventions) -/

/-- Rounding is exact where the divisor divides. -/
theorem roundDiv_mul_self (k : Int) {d : Nat} (hd : 0 < d) : roundDiv (k * d) d = k := by
  have quotient : (2 * (k * d).natAbs + d) / (2 * d) = k.natAbs := by
    rw [Int.natAbs_mul, Int.natAbs_natCast, show 2 * (k.natAbs * d) + d = d + 2 * d * k.natAbs by ring,
      Nat.add_mul_div_left _ _ (by omega), Nat.div_eq_of_lt (by omega), Nat.zero_add]
  have sign : 0 ≤ k * d ↔ 0 ≤ k := mul_nonneg_iff_of_pos_right (by omega)
  rw [roundDiv, quotient]
  split <;> omega

theorem roundDiv_mono {m n : Int} (d : Nat) (h : m ≤ n) : roundDiv m d ≤ roundDiv n d := by
  unfold roundDiv
  split_ifs with hm hn
  · exact_mod_cast Nat.div_le_div_right (by omega)
  · omega
  · exact (neg_nonpos.mpr (Int.natCast_nonneg _)).trans (Int.natCast_nonneg _)
  · exact neg_le_neg (by exact_mod_cast Nat.div_le_div_right (by omega))

/-! ## The tables that R95 admits -/

/-- A point of the table before another: its code is lower and its temperature higher. -/
def PointBefore (p q : Nat × Int) : Prop := p.1 < q.1 ∧ q.2 < p.2

theorem PointBefore.trans {p q r : Nat × Int} (hpq : PointBefore p q) (hqr : PointBefore q r) :
    PointBefore p r :=
  ⟨hpq.1.trans hqr.1, hqr.2.trans hpq.2⟩

theorem tableInOrder_cons_cons (p q : Nat × Int) (rest : List (Nat × Int)) :
    tableInOrder (p :: q :: rest) = true ↔ PointBefore p q ∧ tableInOrder (q :: rest) = true := by
  simp [tableInOrder, PointBefore]

theorem tableInOrder_iff_isChain (table : List (Nat × Int)) :
    tableInOrder table = true ↔ table.IsChain PointBefore := by
  induction table with
  | nil => simp [tableInOrder]
  | cons p tail ih =>
    cases tail with
    | nil => simp [tableInOrder]
    | cons q rest => rw [tableInOrder_cons_cons, List.isChain_cons_cons, ih]

/-- The order of neighbours, which the load tests (R95), is the order of any two points. -/
theorem pairwise_of_tableInOrder {table : List (Nat × Int)} (h : tableInOrder table = true) :
    table.Pairwise PointBefore :=
  have : Trans PointBefore PointBefore PointBefore := ⟨PointBefore.trans⟩
  ((tableInOrder_iff_isChain table).mp h).pairwise

theorem head_code_le_of_mem {q x : Nat × Int} {rest : List (Nat × Int)} (h : tableInOrder (q :: rest) = true)
    (hx : x ∈ q :: rest) : q.1 ≤ x.1 := by
  rcases List.mem_cons.mp hx with rfl | hx
  · exact le_rfl
  · exact ((List.pairwise_cons.mp (pairwise_of_tableInOrder h)).1 x hx).1.le

/-! ## The conversion (R96) -/

/-- The temperature of a code on the line through two points of the table. -/
def segmentTemp (a b : Nat × Int) (code : Nat) : Int :=
  a.2 + roundDiv ((b.2 - a.2) * ((code : Int) - a.1)) (b.1 - a.1)

theorem interpolate_below {table : List (Nat × Int)} {q : Nat × Int} {code : Nat} (hq : q ∈ table.head?)
    (h : code < q.1) : interpolate table code = none := by
  match table, hq with
  | [_], _ => rfl
  | _ :: _ :: _, rfl => simp [interpolate, h]

theorem interpolate_first {a b : Nat × Int} {rest : List (Nat × Int)} {code : Nat} (ha : a.1 ≤ code)
    (hb : code < b.1 ∨ rest = [] ∧ code = b.1) :
    interpolate (a :: b :: rest) code = some (segmentTemp a b code) := by
  simp [interpolate, segmentTemp, ha.not_gt, hb]

theorem interpolate_later {a b : Nat × Int} {rest : List (Nat × Int)} {code : Nat} (ha : a.1 ≤ code)
    (hb : b.1 ≤ code) (hlast : rest = [] → code ≠ b.1) :
    interpolate (a :: b :: rest) code = interpolate (b :: rest) code := by
  have : ¬ (code < b.1 ∨ rest = [] ∧ code = b.1) := by
    rintro (h | ⟨hrest, h⟩)
    · omega
    · exact hlast hrest h
  rw [interpolate, if_neg ha.not_gt, if_neg this]

theorem interpolate_above {table : List (Nat × Int)} {q : Nat × Int} {code : Nat}
    (h : tableInOrder table = true) (hq : q ∈ table.getLast?) (hcode : q.1 < code) :
    interpolate table code = none := by
  induction table with
  | nil => rfl
  | cons a tail ih =>
    cases tail with
    | nil => rfl
    | cons b rest =>
      obtain ⟨⟨hab, -⟩, htail⟩ := (tableInOrder_cons_cons a b rest).mp h
      have hlast : q ∈ (b :: rest).getLast? := by simpa using hq
      have hbq : b.1 ≤ q.1 := head_code_le_of_mem htail (List.mem_of_mem_getLast? hlast)
      rw [interpolate_later (by omega) (by omega) (by omega)]
      exact ih htail hlast

/-- A code is converted by its own segment: every segment before it ends at or below the code. -/
theorem interpolate_segment {table : List (Nat × Int)} {k code : Nat} {a b : Nat × Int}
    (h : tableInOrder table = true) (ha : table[k]? = some a) (hb : table[k + 1]? = some b) (hcode : a.1 ≤ code)
    (hend : code < b.1 ∨ k + 2 = table.length ∧ code = b.1) :
    interpolate table code = some (segmentTemp a b code) := by
  induction k generalizing table with
  | zero =>
    match table, ha, hb with
    | _ :: _ :: rest, rfl, rfl => exact interpolate_first hcode (by simpa using hend)
  | succ k ih =>
    match table, hb with
    | p :: q :: rest, hb =>
      obtain ⟨⟨hpq, -⟩, htail⟩ := (tableInOrder_cons_cons p q rest).mp h
      have hqa : q.1 ≤ a.1 := head_code_le_of_mem htail (List.mem_of_getElem? ha)
      have hrest : rest ≠ [] := by rintro rfl; simp at hb
      rw [interpolate_later (by omega) (by omega) (absurd · hrest)]
      exact ih htail ha hb (by simpa using hend)

/-! ## The temperatures of a segment (R96) -/

section Segment
variable {a b : Nat × Int} {code : Nat}

theorem segmentTemp_first (hab : a.1 < b.1) : segmentTemp a b a.1 = a.2 := by
  simpa [segmentTemp] using roundDiv_mul_self 0 (Nat.sub_pos_of_lt hab)

theorem segmentTemp_last (hab : a.1 < b.1) : segmentTemp a b b.1 = b.2 := by
  have := roundDiv_mul_self (b.2 - a.2) (Nat.sub_pos_of_lt hab)
  rw [Nat.cast_sub hab.le] at this
  rw [segmentTemp, this]
  omega

theorem segmentTemp_anti (htemp : b.2 ≤ a.2) {x y : Nat} (hxy : x ≤ y) :
    segmentTemp a b y ≤ segmentTemp a b x :=
  add_le_add_right (roundDiv_mono _ (mul_le_mul_of_nonpos_left (by omega) (by omega))) _

/-- The line falls, and is exact at both points: so a code between the points is between their temperatures. -/
theorem segmentTemp_mem (hab : a.1 < b.1) (htemp : b.2 ≤ a.2) (ha : a.1 ≤ code) (hb : code ≤ b.1) :
    b.2 ≤ segmentTemp a b code ∧ segmentTemp a b code ≤ a.2 :=
  ⟨(segmentTemp_last hab).ge.trans (segmentTemp_anti htemp hb),
    (segmentTemp_anti htemp ha).trans (segmentTemp_first hab).le⟩

end Segment

theorem readingOf_of_none {table : List (Nat × Int)} {code : Nat} (h : interpolate table code = none) :
    readingOf table code = .invalid := by
  rw [readingOf, h]

theorem readingOf_of_some {table : List (Nat × Int)} {code : Nat} {x : Int}
    (h : interpolate table code = some x) : readingOf table code = .valid x := by
  rw [readingOf, h]

/-! ## The control law (R107) -/

section Request
variable {q : HeatPoint} {tb : Int}

theorem heaterRequest_full (h : (q.band : Int) ≤ q.target - tb) : heaterRequest (some q) (some tb) = q.cap := by
  simp [heaterRequest, h]

theorem heaterRequest_reached (h : (q.target : Int) - tb < q.band) (h0 : (q.target : Int) - tb ≤ 0) :
    heaterRequest (some q) (some tb) = 0 := by
  simp only [heaterRequest, if_neg h.not_ge, if_pos h0]

theorem heaterRequest_proportional (h : (q.target : Int) - tb < q.band) (h0 : 0 < (q.target : Int) - tb) :
    heaterRequest (some q) (some tb) = q.cap * ((q.target : Int) - tb).natAbs / q.band := by
  simp only [heaterRequest, if_neg h.not_ge, if_neg h0.not_ge]

theorem heaterRequest_le_cap (q : HeatPoint) (tb : Int) : heaterRequest (some q) (some tb) ≤ q.cap := by
  rcases le_or_gt (q.band : Int) (q.target - tb) with hfull | hband
  · exact (heaterRequest_full hfull).le
  rcases le_or_gt ((q.target : Int) - tb) 0 with hreached | hbelow
  · exact (heaterRequest_reached hband hreached).trans_le (Nat.zero_le _)
  · rw [heaterRequest_proportional hband hbelow]
    have herror : ((q.target : Int) - tb).natAbs ≤ q.band := by omega
    exact Nat.div_le_of_le_mul (by rw [Nat.mul_comm q.band]; exact Nat.mul_le_mul_left q.cap herror)

end Request

/-! ## The obligations -/

/-- Settles O49: the code's segment converts it (`interpolate_segment`), on a falling line that is exact at both
of its points (`segmentTemp_mem`). -/
theorem codesAreConvertedByTheTable : Obligations.CodesAreConvertedByTheTable := by
  refine ⟨fun table code hlength horder => ⟨fun q hq h => readingOf_of_none (interpolate_below hq h),
    fun q hq h => readingOf_of_none (interpolate_above horder hq h), fun k a b ha hb hcode hend => ?_⟩,
    by decide, by decide, by decide, by decide, by decide, by decide⟩
  obtain ⟨hk, rfl⟩ := List.getElem?_eq_some_iff.mp ha
  obtain ⟨hk', rfl⟩ := List.getElem?_eq_some_iff.mp hb
  obtain ⟨hab, htemp⟩ := List.pairwise_iff_getElem.mp (pairwise_of_tableInOrder horder) k (k + 1) hk hk' (by omega)
  obtain ⟨hlow, hhigh⟩ := segmentTemp_mem hab htemp.le hcode (by omega)
  refine ⟨_, readingOf_of_some (interpolate_segment horder ha hb hcode (by omega)), rfl, hlow, hhigh,
    fun hrange => ?_, ?_, ?_⟩
  · have ⟨_, _, htop⟩ := hrange _ (List.getElem_mem hk)
    have ⟨_, hbottom, _⟩ := hrange _ (List.getElem_mem hk')
    omega
  · rintro rfl; exact segmentTemp_first hab
  · rintro rfl; exact segmentTemp_last hab

/-- Settles O54, by the three ranges of the error: at least the band, at most 0, and between. -/
theorem heaterRequestFollowsTheControlLaw : Obligations.HeaterRequestFollowsTheControlLaw := by
  refine ⟨fun q tb => ⟨heaterRequest_le_cap q tb, heaterRequest_full, heaterRequest_reached, fun hband hbelow => ?_⟩,
    fun tb => rfl, fun q => ?_, by decide, by decide, by decide, by decide, by decide⟩
  · rw [heaterRequest_proportional hband hbelow, Int.natCast_ediv, Int.natCast_mul,
      Int.natAbs_of_nonneg hbelow.le]
  · cases q <;> rfl

end Sys2Proof.Machine
end

section
/-! SUPPORT. The path of a command, said once: its frame is written and read back (12.2), taken and checked (R182),
and its own rule acts on the part with the frame taken. Proofs about one command cite `exec_of_reaches`. -/

namespace Sys2Proof

/-! ## Numbers of a frame and their bytes (R198) -/

@[simp] theorem halfOf_halfBytes (h : Half) : halfOf (h.extractLsb' 8 8) (h.extractLsb' 0 8) = h := by
  rw [halfOf, BitVec.extractLsb'_append_extractLsb'_eq_extractLsb' (by rfl)]
  exact BitVec.extractLsb'_eq_self

@[simp] theorem triOf_triBytes (t : Tri) :
    triOf (t.extractLsb' 16 8) (t.extractLsb' 8 8) (t.extractLsb' 0 8) = t := by
  rw [triOf, BitVec.extractLsb'_append_extractLsb'_eq_extractLsb' (by rfl),
    BitVec.extractLsb'_append_extractLsb'_eq_extractLsb' (by rfl)]
  exact BitVec.extractLsb'_eq_self

@[simp] theorem halfBytes_halfOf (hi lo : Byte) : halfBytes (halfOf hi lo) = [hi, lo] := by
  simp only [halfBytes, halfOf, List.cons.injEq, and_true]
  exact ⟨BitVec.extractLsb'_append_eq_left, BitVec.extractLsb'_append_eq_right⟩

@[simp] theorem triBytes_triOf (hi mid lo : Byte) : triBytes (triOf hi mid lo) = [hi, mid, lo] := by
  simp only [triBytes, triOf, List.cons.injEq, and_true]
  refine ⟨?_, ?_, BitVec.extractLsb'_append_eq_right⟩
  · rw [BitVec.extractLsb'_append_eq_of_le (by decide)]
    exact BitVec.extractLsb'_append_eq_left
  · rw [BitVec.extractLsb'_append_eq_of_le (by decide)]
    exact BitVec.extractLsb'_append_eq_right

@[simp] theorem halfBytes_length (h : Half) : (halfBytes h).length = 2 := rfl

@[simp] theorem triBytes_length (t : Tri) : (triBytes t).length = 3 := rfl

@[simp] theorem pointBytes_length (points : List RawPoint) : (pointBytes points).length = 4 * points.length := by
  induction points with
  | nil => rfl
  | cons q rest ih => simp [pointBytes, ih]; omega

@[simp] theorem pointsOf_pointBytes (points : List RawPoint) : pointsOf (pointBytes points) = points := by
  induction points with
  | nil => rfl
  | cons q rest ih => simp [pointBytes, halfBytes, pointsOf, ih]

/-- Points read from whole groups of four bytes are those very bytes (R200). -/
theorem pointBytes_pointsOf {n : Nat} {bytes : List Byte} (h : bytes.length = 4 * n) :
    pointBytes (pointsOf bytes) = bytes ∧ (pointsOf bytes).length = n := by
  induction n generalizing bytes with
  | zero => rw [List.eq_nil_of_length_eq_zero h]; exact ⟨rfl, rfl⟩
  | succ n ih =>
    match bytes, h with
    | c1 :: c0 :: t1 :: t0 :: rest, h =>
      obtain ⟨hbytes, hlength⟩ := ih (bytes := rest) (by simp at h; omega)
      simp [pointsOf, pointBytes, hbytes, hlength]

/-! ## A frame is written and read back -/

theorem frameOf_eq_some {i : Instr} {p : Port} {bytes : List Byte} :
    frameOf i = some (p, bytes) ↔
      ∃ code params, codeAndParams i = some (p, code, params) ∧ bytes = frameBytesOf code params := by
  cases h : codeAndParams i with
  | none => simp [frameOf, h]
  | some c =>
    obtain ⟨q, code, params⟩ := c
    simp only [frameOf, h, Option.map_some, Option.some.injEq, Prod.mk.injEq]
    constructor
    · rintro ⟨rfl, rfl⟩; exact ⟨code, params, ⟨rfl, rfl, rfl⟩, rfl⟩
    · rintro ⟨_, _, ⟨rfl, rfl, rfl⟩, rfl⟩; exact ⟨rfl, rfl⟩

/-- The parameters of a well-formed command fit a frame (12.2). -/
theorem params_length_le {i : Instr} {p : Port} {code : Byte} {params : List Byte} (hwf : i.wellFormed = true)
    (h : codeAndParams i = some (p, code, params)) : params.length ≤ 38 := by
  cases i <;> simp [codeAndParams] at h <;> obtain ⟨-, -, rfl⟩ := h <;>
    simp_all [Instr.wellFormed, wfRecord]; omega

theorem decodeFrame_frameBytesOf (p : Port) (pin : Bool) (code : Byte) {params : List Byte}
    (h : params.length ≤ 38) : decodeFrame p pin (frameBytesOf code params) = decodeCommand p pin code params := by
  have : (BitVec.ofNat 8 (params.length + 1)).toNat = params.length + 1 := by
    rw [BitVec.toNat_ofNat]; omega
  simp only [frameBytesOf, decodeFrame, this, if_true]

/-- The pin level that the reply of a line command shows; no byte of its frame carries it. -/
def Instr.shownPin : Instr → Bool
  | .setLineLevel _ _ _ pin | .setLineFunction _ _ _ pin => pin
  | _ => false

/-- Code and parameters of a well-formed command spell that command (R182 stage 2). -/
theorem decodeCommand_codeAndParams {i : Instr} {p : Port} {code : Byte} {params : List Byte}
    (hwf : i.wellFormed = true) (h : codeAndParams i = some (p, code, params)) :
    decodeCommand p i.shownPin code params = some i := by
  cases i <;> simp only [codeAndParams, reduceCtorEq, Option.some.injEq, Prod.mk.injEq] at h <;>
    obtain ⟨rfl, rfl, rfl⟩ := h
  case putStep =>
    simp only [Instr.wellFormed, wfRecord, Bool.and_eq_true, decide_eq_true_eq] at hwf
    exact if_pos hwf.1
  case loadThermistorTableFirst q half points =>
    have hpoints : (pointBytes points).length = 36 := by simp_all [Instr.wellFormed]
    exact (if_pos hpoints).trans (by simp)
  case loadThermistorTableSecond q half points =>
    have hpoints : (pointBytes points).length = 32 := by simp_all [Instr.wellFormed]
    exact ((if_neg (by omega)).trans (if_pos hpoints)).trans (by simp)
  all_goals refine (congrArg some ?_ : some _ = some _)
  all_goals simp [Instr.shownPin]

/-- Settles O3: the length byte of a frame of at most 38 parameters tells their number, and code and parameters spell
the command (`decodeCommand_codeAndParams`). -/
theorem encodedFramesDecode : Obligations.EncodedFramesDecode := by
  intro i p bytes hwf h
  obtain ⟨code, params, hcode, rfl⟩ := frameOf_eq_some.mp h
  have hlength := params_length_le hwf hcode
  refine ⟨⟨i.shownPin, ?_⟩, ?_⟩
  · rw [decodeFrame_frameBytesOf _ _ _ hlength, decodeCommand_codeAndParams hwf hcode]
  · simp [frameBytesOf]; omega

/-- The command codes of 12.2. -/
def commandCodes : List Nat :=
  [0x00, 0x10, 0x11, 0x20, 0x30, 0x40, 0x41, 0x42, 0x43, 0x50, 0x51, 0x52, 0x60, 0x61, 0x70, 0x80, 0x81, 0x90,
    0xA0, 0xA1, 0xA2, 0xA3, 0xA4, 0xA5, 0xA6, 0xA7, 0xA8, 0xA9, 0xAA, 0xB0, 0xC0, 0xC1, 0xC2, 0xC3, 0xC4, 0xC5,
    0xC6]

theorem byte_eq_ofNat {code : Byte} {n : Nat} (h : code.toNat = n) : code = BitVec.ofNat 8 n := by
  rw [← h, BitVec.ofNat_toNat, BitVec.setWidth_eq]

/-- A code that is none of 12.2 spells no command. -/
theorem decodeCommand_of_not_mem {p : Port} {pin : Bool} {code : Byte} {params : List Byte}
    (h : code.toNat ∉ commandCodes) : decodeCommand p pin code params = none := by
  generalize hn : code.toNat = n at h
  have hlt : n < 256 := hn ▸ code.isLt
  obtain rfl := byte_eq_ofNat hn
  clear hn
  interval_cases n
  all_goals first | rfl | exact absurd (by decide) h

/-- Code and parameters that spell a command are that command's own (R182 stage 2). The codes of PUT STEP and LOAD
THERMISTOR TABLE go with several numbers of parameters, every other code with one of at most nine. -/
theorem codeAndParams_of_decodeCommand {p : Port} {pin : Bool} {code : Byte} {params : List Byte} {i : Instr}
    (hlength : params.length ≤ 38) (h : decodeCommand p pin code params = some i) :
    codeAndParams i = some (p, code, params) ∧ i.wellFormed = true := by
  by_cases hmem : code.toNat ∈ commandCodes
  swap
  · rw [decodeCommand_of_not_mem hmem] at h; cases h
  by_cases hput : code = 0x50
  · subst hput
    match params, h with
    | index :: record, h =>
      obtain ⟨hrecord, h⟩ := Option.ite_none_right_eq_some.mp h
      obtain rfl := Option.some.inj h
      have hfits : record.length ≤ 37 := Nat.le_of_succ_le_succ hlength
      simp [codeAndParams, Instr.wellFormed, wfRecord, hrecord, hfits]
  by_cases htable : code = 0xAA
  · subst htable
    match params, h with
    | half :: bytes, h =>
      by_cases hfirst : bytes.length = 36
      · obtain rfl := Option.some.inj ((if_pos hfirst).symm.trans h)
        obtain ⟨hbytes, hpoints⟩ := pointBytes_pointsOf (n := 9) hfirst
        simp [codeAndParams, Instr.wellFormed, hbytes, hpoints]
      · obtain ⟨hsecond, h⟩ := Option.ite_none_right_eq_some.mp ((if_neg hfirst).symm.trans h)
        obtain rfl := Option.some.inj h
        obtain ⟨hbytes, hpoints⟩ := pointBytes_pointsOf (n := 8) hsecond
        simp [codeAndParams, Instr.wellFormed, hbytes, hpoints]
  have hother : code.toNat ∈ (commandCodes.erase 0x50).erase 0xAA :=
    (List.mem_erase_of_ne fun heq => htable (byte_eq_ofNat heq)).mpr
      ((List.mem_erase_of_ne fun heq => hput (byte_eq_ofNat heq)).mpr hmem)
  obtain ⟨n, hn, rfl⟩ : ∃ n ∈ (commandCodes.erase 0x50).erase 0xAA, code = BitVec.ofNat 8 n :=
    ⟨_, hother, byte_eq_ofNat rfl⟩
  fin_cases hn
  all_goals
    rcases params with _ | ⟨a, _ | ⟨b, _ | ⟨c, _ | ⟨d, _ | ⟨e, _ | ⟨f, _ | ⟨g, _ | ⟨k, _ | ⟨l, _ | ⟨m, rest⟩⟩⟩⟩⟩⟩⟩⟩⟩⟩
    all_goals cases h
    all_goals simp [codeAndParams, Instr.wellFormed]

/-- Settles O4: the length byte is the number of the bytes behind it, and the command spelled has the frame's own code
and parameters (`codeAndParams_of_decodeCommand`). -/
theorem decodedFramesReencode : Obligations.DecodedFramesReencode := by
  intro p pin bytes i hbytes h
  match bytes, hbytes, h with
  | length :: code :: params, hbytes, h =>
    obtain ⟨hlength, h⟩ := Option.ite_none_right_eq_some.mp h
    obtain ⟨hcode, hwf⟩ := codeAndParams_of_decodeCommand (by simp at hbytes; omega) h
    refine ⟨frameOf_eq_some.mpr ⟨code, params, hcode, ?_⟩, hwf⟩
    rw [frameBytesOf, ← hlength, BitVec.ofNat_toNat, BitVec.setWidth_eq]

end Sys2Proof
end

section
/-! SUPPORT. The command interpreter (R182): the rule of each command, and what exec is where the frame of a command
cannot be taken, is refused at stages 3 and 4, or reaches its rule. -/

namespace Sys2Proof.Machine

/-- The own rule of each command; for a row that is no command of a master there is none. -/
def ruleOf : Instr → Option (State → Executed)
  | .selectView p view number => some (selectViewRule p view number)
  | .takeNotice p => some (takeNoticeRule p)
  | .setSubscription p marks => some (setSubscriptionRule p marks)
  | .pause _ => some pauseRule
  | .confirm _ step => some (confirmRule step)
  | .start _ => some startRule
  | .resume _ => some resumeRule
  | .skip _ => some skipRule
  | .abort _ => some abortRule
  | .putStep _ index record => some (putStepRule index record)
  | .deleteStep _ index => some (deleteStepRule index)
  | .clearProgram _ => some clearProgramRule
  | .setHoldPoint _ slot index => some (setHoldPointRule slot index)
  | .clearHoldPoint _ slot => some (clearHoldPointRule slot)
  | .tare _ => some tareRule
  | .manualSet _ level heatPresent target cap => some (manualSetRule level heatPresent target cap)
  | .manualStop _ => some manualStopRule
  | .setLineLevel _ line level pin => some (setLineLevelRule line level pin)
  | .enterConfig _ => some enterConfigRule
  | .leaveConfig _ => some leaveConfigRule
  | .setAcceptance p port filter enable code mask =>
      some (inConfig (setAcceptanceRule p port filter enable code mask))
  | .setService _ choice => some (inConfig (setServiceRule choice))
  | .setBudget _ watts => some (inConfig (setBudgetRule watts))
  | .setLineFunction _ line function pin => some (inConfig (setLineFunctionRule line function pin))
  | .setLineFilter _ interval => some (inConfig (setLineFilterRule interval))
  | .setScalePolicy _ pairs policy still motion threshold =>
      some (inConfig (setScalePolicyRule pairs policy still motion threshold))
  | .loadScaleCalibration _ zero gain tc tcal => some (inConfig (loadScaleCalibrationRule zero gain tc tcal))
  | .loadHeaterData _ rh rating kmains => some (inConfig (loadHeaterDataRule rh rating kmains))
  | .loadThermistorTableFirst p half points => some (inConfig (loadTableFirstRule p half points))
  | .loadThermistorTableSecond p half points => some (inConfig (loadTableSecondRule p half points))
  | .warmReset _ => some warmResetRule
  | .leaseArm _ period locked => some (clearsKey (leaseArmRule period locked))
  | .leaseKeyA _ => some leaseKeyARule
  | .leaseKeyB _ => some (clearsKey leaseKeyBRule)
  | .leaseDisarm _ => some (clearsKey leaseDisarmRule)
  | .safetyStop _ => some (clearsKey safetyStopRule)
  | .safetyClear _ => some (clearsKey safetyClearRule)
  | .safetyLimit _ watts => some (clearsKey (safetyLimitRule watts))
  | _ => none

/-- A command is the taking and execution of its frame, by its own rule. -/
theorem exec_eq_runCommand {i : Instr} {p : Port} {code : Byte} {params : List Byte}
    (h : codeAndParams i = some (p, code, params)) :
    ∃ rule, ruleOf i = some rule ∧ ∀ s, exec i s = .next (runCommand s p code params rule) := by
  cases i <;> simp only [codeAndParams, reduceCtorEq, Option.some.injEq, Prod.mk.injEq] at h <;>
    obtain ⟨rfl, rfl, rfl⟩ := h <;> exact ⟨_, rfl, fun _ => rfl⟩

theorem passesState_iff {s : State} {code : Byte} :
    passesState s code = true ↔
      s.run.state ≠ .faulted ∨ classOf code = 0 ∨ classOf code = 1 ∨ code = warmResetCode := by
  simp only [passesState, Bool.or_eq_true, decide_eq_true_eq, or_assoc]

section Command
variable {i : Instr} {p : Port} {code : Byte} {params : List Byte} {s : State}

theorem State.offers_eq (h : codeAndParams i = some (p, code, params)) :
    s.offers i = (s.takeFrame ⟨p, frameBytesOf code params, false⟩).isSome := by
  simp [State.offers, frameOf, h]

theorem State.taken_eq (h : codeAndParams i = some (p, code, params)) :
    s.taken i = (s.takeFrame ⟨p, frameBytesOf code params, false⟩).getD s := by
  simp [State.taken, frameOf, h]

/-- The frame of a well-formed command passes stages 1 and 2 of R182. -/
theorem frame_not_bad (h : codeAndParams i = some (p, code, params)) (hwf : i.wellFormed = true) :
    Frame.isBad ⟨p, frameBytesOf code params, false⟩ = false := by
  have hlength := params_length_le hwf h
  have hdecode := decodeCommand_codeAndParams hwf h
  have hpin : (decodeCommand p false code params).isSome = true := by
    cases i <;> simp only [codeAndParams, reduceCtorEq, Option.some.injEq, Prod.mk.injEq] at h <;>
      obtain ⟨rfl, rfl, rfl⟩ := h
    case setLineLevel => rfl
    case setLineFunction => rfl
    all_goals exact Option.isSome_of_eq_some hdecode
  simpa [Frame.isBad, decodeFrame_frameBytesOf p false code hlength] using hpin

/-- A frame that cannot be taken has no effect (log entry 6). -/
theorem exec_of_not_offered (h : codeAndParams i = some (p, code, params)) (hwf : i.wellFormed = true)
    (hoffer : s.offers i = false) : exec i s = .next s := by
  obtain ⟨rule, -, hexec⟩ := exec_eq_runCommand h
  have hlength : ¬ 38 < params.length := (params_length_le hwf h).not_gt
  rw [State.offers_eq h] at hoffer
  rw [hexec, runCommand_of_not_taken (by simpa [hlength] using hoffer)]

/-- A frame that is taken is interpreted by the command's rule, and its outcome goes to the sender's reply slot. -/
theorem exec_of_offered (h : codeAndParams i = some (p, code, params)) (hwf : i.wellFormed = true)
    (hoffer : s.offers i = true) :
    ∃ rule, ruleOf i = some rule ∧
      let done := interpret (s.taken i) ⟨p, frameBytesOf code params, false⟩ code rule
      exec i s = .next (done.1.recordReply p (some code) done.2) := by
  obtain ⟨rule, hrule, hexec⟩ := exec_eq_runCommand h
  have hlength : decide (38 < params.length) = false := decide_eq_false (params_length_le hwf h).not_gt
  rw [State.offers_eq h] at hoffer
  obtain ⟨s1, hs1⟩ := Option.isSome_iff_exists.mp hoffer
  refine ⟨rule, hrule, ?_⟩
  rw [State.taken_eq h, hs1, Option.getD_some, hexec, runCommand_of_taken (s1 := s1) (by rw [hlength, hs1]), hlength]

theorem exec_of_class_refused (h : codeAndParams i = some (p, code, params)) (hwf : i.wellFormed = true)
    (hoffer : s.offers i = true) (hclass : (s.taken i).bus.accepts p (classOf code) = false) :
    exec i s = .next ((s.taken i).refused p code .refusedClass) := by
  obtain ⟨rule, -, hexec⟩ := exec_of_offered h hwf hoffer
  rw [hexec]
  simp [interpret, frame_not_bad h hwf, hclass, refuse, State.refused, State.answered]

theorem exec_of_state_refused (h : codeAndParams i = some (p, code, params)) (hwf : i.wellFormed = true)
    (hoffer : s.offers i = true) (hclass : (s.taken i).bus.accepts p (classOf code) = true)
    (hstate : passesState (s.taken i) code = false) :
    exec i s = .next ((s.taken i).refused p code .refusedState) := by
  obtain ⟨rule, -, hexec⟩ := exec_of_offered h hwf hoffer
  rw [hexec]
  simp [interpret, frame_not_bad h hwf, hclass, hstate, refuse, State.refused, State.answered]

theorem State.reaches_iff (h : codeAndParams i = some (p, code, params)) :
    s.reaches i = true ↔ i.wellFormed = true ∧ s.offers i = true ∧
      (s.taken i).bus.accepts p (classOf code) = true ∧ passesState (s.taken i) code = true := by
  simp [State.reaches, h, and_assoc]

/-- A command that reaches its rule: the rule acts on the part with the frame taken, and its outcome goes to the
sender's reply slot. -/
theorem exec_of_reaches {rule : State → Executed} (h : codeAndParams i = some (p, code, params))
    (hrule : ruleOf i = some rule) (hreach : s.reaches i = true) :
    exec i s = .next ((rule (s.taken i)).1.answered p code (rule (s.taken i)).2.result (rule (s.taken i)).2.data) := by
  obtain ⟨hwf, hoffer, hclass, hstate⟩ := (State.reaches_iff h).mp hreach
  obtain ⟨rule', hrule', hexec⟩ := exec_of_offered h hwf hoffer
  obtain rfl : rule' = rule := Option.some.inj (hrule'.symm.trans hrule)
  rw [hexec]
  simp [interpret, frame_not_bad h hwf, hclass, hstate, State.answered]

/-- A command that reaches its rule does not find FAULTED, unless its class is 0 or 1 or it is WARM RESET (R45). -/
theorem State.not_faulted_of_reaches (h : codeAndParams i = some (p, code, params)) (hreach : s.reaches i = true)
    (h0 : classOf code ≠ 0) (h1 : classOf code ≠ 1) (hwarm : code ≠ warmResetCode) :
    (s.taken i).run.state ≠ .faulted := by
  obtain ⟨-, -, -, hstate⟩ := (State.reaches_iff h).mp hreach
  rw [passesState_iff] at hstate
  tauto

end Command

/-! ## The obligations -/

/-- Settles O1, by the definition of a step. -/
theorem stepRunsTheFrontCommand : Obligations.StepRunsTheFrontCommand :=
  ⟨fun i rest s h => by rw [step, h], fun s h => by rw [step, h]⟩

/-- Settles O14: the port alone decides stage 3 for class 12, and stage 4 lets it pass outside FAULTED. -/
theorem safetyClassNeedsTheSafetyPort : Obligations.SafetyClassNeedsTheSafetyPort := by
  intro i p code params s h hclass hwf hoffer
  refine ⟨fun hport => exec_of_class_refused h hwf hoffer ?_, ?_⟩
  · simp [Bus.accepts, hclass, safetyClass, hport]
  · rintro rfl hstate
    refine (State.reaches_iff h).mpr ⟨hwf, hoffer, ?_, ?_⟩
    · simp [Bus.accepts, hclass, safetyClass]
    · simp [passesState, hstate]

/-- Settles O15, by the stage of R182 that refuses the frame. -/
theorem refusedFramesChangeTheReplyAlone : Obligations.RefusedFramesChangeTheReplyAlone := by
  refine ⟨fun p bytes tooLong s s1 hbad htaken => ?_, fun i p code params s h hwf =>
    ⟨exec_of_not_offered h hwf, exec_of_class_refused h hwf, fun hoffer hclass hstate h0 h1 hwarm =>
      exec_of_state_refused h hwf hoffer hclass ?_⟩⟩
  · simp [exec, execBadFrame, hbad, htaken]
  · refine Bool.eq_false_iff.mpr fun hpass => ?_
    rw [passesState_iff] at hpass
    exact hpass.elim (· hstate) fun hpass => hpass.elim h0 fun hpass => hpass.elim h1 hwarm

end Sys2Proof.Machine
end

section
/-! SUPPORT. What the shared operations leave of each block, beyond the whole fields of Laws/Frames.lean: the handovers
of set points touch a few fields of the thermal unit, the blade drive, the weighing unit and the auxiliary lines, and
the run controller a few more. Each operation has one lemma, which gives `simp` every field it leaves. -/

namespace Sys2Proof.Machine

/-! ## Which fields are left -/

/-- Left by the handovers: all but set point, grant, gate and vent fan. -/
@[simp] abbrev Thermal.Kept (t s : Thermal) : Prop :=
  t.table = s.table ∧ t.rh = s.rh ∧ t.rating = s.rating ∧ t.kmains = s.kmains ∧ t.base = s.base ∧
  t.element = s.element ∧ t.cell = s.cell ∧ t.baseHistory = s.baseHistory ∧ t.hot = s.hot ∧ t.mains = s.mains ∧
  t.lastCrossing = s.lastCrossing ∧ t.lastPeriod = s.lastPeriod ∧ t.volts = s.volts ∧ t.lossTimer = s.lossTimer ∧
  t.cycle = s.cycle ∧ t.duty = s.duty ∧ t.timerDue = s.timerDue

/-- Left by the run controller: all but kind, tare timer and near-armed flag. -/
@[simp] abbrev Weigh.Kept (t s : Weigh) : Prop :=
  t.cal = s.cal ∧ t.policy = s.policy ∧ t.sampleKind = s.sampleKind ∧ t.lastKind = s.lastKind ∧
  t.historyKind = s.historyKind ∧ t.history = s.history ∧ t.recent = s.recent ∧ t.reported = s.reported ∧
  t.range = s.range ∧ t.settled = s.settled ∧ t.tare = s.tare ∧ t.freeDue = s.freeDue

/-- Left by the handovers: all but the kind. -/
@[simp] abbrev Weigh.KeptButKind (t s : Weigh) : Prop :=
  t.Kept s ∧ t.tareTimer = s.tareTimer ∧ t.nearArmed = s.nearArmed

/-- Left by the handovers: the pulse timing, the power samples and their timers. -/
@[simp] abbrev Blade.Kept (t s : Blade) : Prop :=
  t.lastPulse = s.lastPulse ∧ t.lastPeriod = s.lastPeriod ∧ t.actual = s.actual ∧ t.roseAt = s.roseAt ∧
  t.checkDue = s.checkDue ∧ t.power = s.power ∧ t.powerSum = s.powerSum ∧ t.powerCount = s.powerCount ∧
  t.pmot = s.pmot ∧ t.motorDue = s.motorDue

/-- The set point with its pattern and the direction it asks for. -/
@[simp] abbrev Blade.KeptPoint (t s : Blade) : Prop :=
  t.stir = s.stir ∧ t.intervalOn = s.intervalOn ∧ t.patternTimer = s.patternTimer ∧ t.halfTimer = s.halfTimer ∧
  t.wantDirection = s.wantDirection

/-- Left where the blade only follows: all but commanded level, ramp, settle and stall timer. -/
@[simp] abbrev Blade.KeptFollowing (t s : Blade) : Prop :=
  t.Kept s ∧ t.KeptPoint s ∧ t.effective = s.effective ∧ t.direction = s.direction ∧ t.inverter = s.inverter

/-- Left where the blade only follows: all but the lid lock. -/
@[simp] abbrev Aux.KeptButLock (t s : Aux) : Prop :=
  t.lines = s.lines ∧ t.buzzer = s.buzzer ∧ t.stepMark = s.stepMark ∧ t.lamp = s.lamp ∧ t.lampDue = s.lampDue

/-- Left by a change of the run state too: all but the lid lock and the run lamp. -/
@[simp] abbrev Aux.Kept (t s : Aux) : Prop := t.lines = s.lines ∧ t.buzzer = s.buzzer ∧ t.stepMark = s.stepMark

/-- Left by the run controller: all but the open flag. -/
@[simp] abbrev IngredientLog.Kept (t s : IngredientLog) : Prop :=
  t.refs = s.refs ∧ t.entries = s.entries ∧ t.nextNumber = s.nextNumber ∧ t.exhausted = s.exhausted ∧
  t.dropped = s.dropped

/-- Left by the run controller: all but what the results hold. -/
@[simp] abbrev Program.Kept (t s : Program) : Prop :=
  t.steps = s.steps ∧ t.hold0 = s.hold0 ∧ t.hold1 = s.hold1 ∧ t.results.length = s.results.length

/-- Left by a handover of set points, beyond its frame. -/
@[simp] abbrev State.KeptByHandover (t s : State) : Prop :=
  t.thermal.Kept s.thermal ∧ t.weigh.KeptButKind s.weigh ∧ t.blade.Kept s.blade ∧ t.aux.Kept s.aux

/-- Left by every operation of the run controller, beyond its frame. -/
@[simp] abbrev State.KeptByRun (t s : State) : Prop :=
  t.program.Kept s.program ∧ t.log.Kept s.log ∧ t.thermal.Kept s.thermal ∧ t.weigh.Kept s.weigh ∧
  t.blade.Kept s.blade ∧ t.aux.lines = s.aux.lines

/-! ## Heater -/

@[simp] theorem State.updateVent_kept (s : State) :
    s.updateVent.thermal.Kept s.thermal ∧ s.updateVent.thermal.setPoint = s.thermal.setPoint ∧
    s.updateVent.thermal.grant = s.thermal.grant ∧ s.updateVent.thermal.gate = s.thermal.gate := by
  simp [State.updateVent]

@[simp] theorem State.cutGrant_kept (s : State) : s.cutGrant.thermal.Kept s.thermal := by
  simp [State.cutGrant]

@[simp] theorem State.handHeat_kept (s : State) : s.handHeat.thermal.Kept s.thermal := by
  unfold State.handHeat
  dsimp only
  split <;> simp

/-! ## Blade -/

@[simp] theorem State.updateCommanded_kept (s : State) :
    s.updateCommanded.weigh.KeptButKind s.weigh ∧ s.updateCommanded.blade.KeptFollowing s.blade ∧
    s.updateCommanded.blade.ramp = s.blade.ramp ∧ s.updateCommanded.blade.settle = s.blade.settle ∧
    s.updateCommanded.blade.stallTimer = s.blade.stallTimer := by
  unfold State.updateCommanded
  split <;> simp

@[simp] theorem State.updateLock_kept (s : State) : s.updateLock.aux.KeptButLock s.aux := by
  unfold State.updateLock
  split_ifs <;> simp

@[simp] theorem State.updateStall_kept (s : State) :
    s.updateStall.blade.KeptFollowing s.blade ∧ s.updateStall.blade.commanded = s.blade.commanded ∧
    s.updateStall.blade.ramp = s.blade.ramp ∧ s.updateStall.blade.settle = s.blade.settle := by
  simp [State.updateStall]

@[simp] theorem State.updateBlade_kept (s : State) :
    s.updateBlade.weigh.KeptButKind s.weigh ∧ s.updateBlade.blade.KeptFollowing s.blade ∧
    s.updateBlade.aux.KeptButLock s.aux := by
  simp [State.updateBlade]

@[simp] theorem State.takeDirection_kept (s : State) :
    s.takeDirection.blade.Kept s.blade ∧ s.takeDirection.blade.KeptPoint s.blade ∧
    s.takeDirection.blade.effective = s.blade.effective ∧ s.takeDirection.blade.inverter = s.blade.inverter ∧
    s.takeDirection.blade.commanded = s.blade.commanded ∧ s.takeDirection.blade.ramp = s.blade.ramp ∧
    s.takeDirection.blade.settle = s.blade.settle ∧ s.takeDirection.blade.stallTimer = s.blade.stallTimer := by
  unfold State.takeDirection
  split <;> simp

@[simp] theorem State.handStir_kept (s : State) (p : StirPoint) :
    (s.handStir p).weigh.KeptButKind s.weigh ∧ (s.handStir p).blade.Kept s.blade ∧
    (s.handStir p).aux.KeptButLock s.aux ∧ (s.handStir p).blade.effective = s.blade.effective ∧
    (s.handStir p).blade.inverter = s.blade.inverter := by
  simp [State.handStir]

@[simp] theorem State.endRest_kept (s : State) :
    s.endRest.weigh.KeptButKind s.weigh ∧ s.endRest.blade.Kept s.blade ∧ s.endRest.blade.KeptPoint s.blade ∧
    s.endRest.blade.direction = s.blade.direction ∧ s.endRest.aux.KeptButLock s.aux := by
  unfold State.endRest
  split <;> simp

@[simp] theorem State.brake_kept (s : State) :
    s.brake.weigh.KeptButKind s.weigh ∧ s.brake.blade.Kept s.blade ∧ s.brake.blade.KeptPoint s.blade ∧
    s.brake.blade.direction = s.blade.direction ∧ s.brake.aux.KeptButLock s.aux := by
  simp [State.brake]

@[simp] theorem State.inverterOff_kept (s : State) :
    s.inverterOff.blade.Kept s.blade ∧ s.inverterOff.blade.KeptPoint s.blade ∧
    s.inverterOff.blade.direction = s.blade.direction ∧ s.inverterOff.blade.commanded = s.blade.commanded ∧
    s.inverterOff.blade.effective = 0 ∧ s.inverterOff.blade.ramp = none ∧ s.inverterOff.blade.settle = none ∧
    s.inverterOff.blade.inverter = .off := by
  simp [State.inverterOff]

@[simp] theorem State.gates_kept (r s : State) :
    (r.gates s).thermal.Kept s.thermal ∧ (r.gates s).weigh.KeptButKind s.weigh ∧ (r.gates s).blade.Kept s.blade ∧
    (r.gates s).blade.KeptPoint s.blade ∧ (r.gates s).blade.direction = s.blade.direction ∧
    (r.gates s).aux.KeptButLock s.aux ∧ (r.gates s).thermal.setPoint = s.thermal.setPoint := by
  unfold State.gates
  dsimp only
  split_ifs <;> simp

@[simp] theorem State.removeDerate_kept (s : State) :
    s.removeDerate.weigh.KeptButKind s.weigh ∧ s.removeDerate.blade.KeptFollowing s.blade ∧
    s.removeDerate.aux.KeptButLock s.aux ∧
    s.removeDerate.budget = { s.budget with ceiling := none, overCount := 0, underCount := 0 } := by
  simp [State.removeDerate]

/-! ## Run controller -/

@[simp] theorem State.setRunState_kept (s : State) (r : RunState) :
    (s.setRunState r).aux.Kept s.aux ∧ (s.setRunState r).aux.lockEngaged = s.aux.lockEngaged ∧
    (s.setRunState r).aux.lockedAt = s.aux.lockedAt := by
  unfold State.setRunState
  cases r <;> simp
  split <;> simp

@[simp] theorem State.handIdle_kept (s : State) :
    s.handIdle.KeptByHandover s ∧ s.handIdle.aux.KeptButLock s.aux := by
  simp [State.handIdle]

@[simp] theorem State.hold_kept (s : State) : s.hold.KeptByHandover s := by
  simp [State.hold]

@[simp] theorem State.addCauses_kept (s : State) (c : CauseSet) : (s.addCauses c).KeptByHandover s := by
  unfold State.addCauses
  dsimp only
  split_ifs <;> simp

@[simp] theorem State.examineRun_kept (s : State) : s.examineRun.KeptByHandover s := by
  unfold State.examineRun
  dsimp only
  split_ifs <;> simp

@[simp] theorem State.endManual_kept (s : State) : s.endManual.KeptByHandover s := by
  simp [State.endManual]

@[simp] theorem State.examineManual_kept (s : State) : s.examineManual.KeptByHandover s := by
  unfold State.examineManual
  dsimp only
  split_ifs <;> simp

@[simp] theorem State.examine_kept (s : State) : s.examine.KeptByHandover s := by
  simp [State.examine]

@[simp] theorem State.stopAll_kept (s : State) (r : RunState) :
    (s.stopAll r).KeptByHandover s ∧ (s.stopAll r).log.Kept s.log := by
  simp [State.stopAll]

@[simp] theorem State.enterHalted_kept (s : State) :
    s.enterHalted.KeptByHandover s ∧ s.enterHalted.log.Kept s.log := by
  simp [State.enterHalted]

@[simp] theorem State.enterFaulted_kept (s : State) :
    s.enterFaulted.KeptByHandover s ∧ s.enterFaulted.log.Kept s.log := by
  simp [State.enterFaulted]

@[simp] theorem State.setStopLatch_kept (s : State) :
    s.setStopLatch.KeptByHandover s ∧ s.setStopLatch.log.Kept s.log := by
  unfold State.setStopLatch
  dsimp only
  split_ifs <;> simp

@[simp] theorem State.lapse_kept (s : State) : s.lapse.KeptByHandover s ∧ s.lapse.log.Kept s.log := by
  unfold State.lapse
  dsimp only
  split_ifs <;> simp

/-! ## Entry, exit and what they are part of -/

@[simp] theorem Program.editResult_kept (p : Program) (i : Nat) (f : StepResult → StepResult) :
    (p.editResult i f).Kept p := by
  simp [Program.editResult]

@[simp] theorem State.requestTare_kept (s : State) :
    s.requestTare.weigh.Kept s.weigh ∧ s.requestTare.weigh.kind = s.weigh.kind ∧
    s.requestTare.weigh.nearArmed = s.weigh.nearArmed := by
  unfold State.requestTare
  split <;> simp

@[simp] theorem State.startBuzzer_kept (s : State) :
    s.startBuzzer.aux.lines = s.aux.lines ∧ s.startBuzzer.aux.lockEngaged = s.aux.lockEngaged ∧
    s.startBuzzer.aux.lockedAt = s.aux.lockedAt ∧ s.startBuzzer.aux.stepMark = s.aux.stepMark ∧
    s.startBuzzer.aux.lamp = s.aux.lamp ∧ s.startBuzzer.aux.lampDue = s.aux.lampDue := by
  simp [State.startBuzzer]

@[simp] theorem State.beginStep_kept (s : State) (r : StepRecord) :
    (s.beginStep r).program = s.program.editResult s.run.cursor (fun _ => .entered) ∧
    (s.beginStep r).weigh.Kept s.weigh ∧ (s.beginStep r).weigh.kind = s.weigh.kind := by
  unfold State.beginStep
  dsimp only
  split_ifs <;> simp

@[simp] theorem State.announceStep_kept (s : State) (r : StepRecord) :
    (s.announceStep r).aux.lines = s.aux.lines ∧ (s.announceStep r).aux.lockEngaged = s.aux.lockEngaged ∧
    (s.announceStep r).aux.lockedAt = s.aux.lockedAt ∧ (s.announceStep r).aux.lamp = s.aux.lamp ∧
    (s.announceStep r).aux.lampDue = s.aux.lampDue ∧ (s.announceStep r).aux.stepMark = !s.aux.stepMark := by
  unfold State.announceStep
  dsimp only
  split <;> simp

@[simp] theorem State.enterStep_kept (s : State) : s.enterStep.KeptByRun s := by
  unfold State.enterStep
  split <;> simp

@[simp] theorem State.arrive_kept (s : State) : s.arrive.KeptByRun s := by
  unfold State.arrive
  split <;> simp

@[simp] theorem State.closeResult_kept (s : State) (o : StepOutcome) (e : Option EndReason) :
    (s.closeResult o e).program.Kept s.program := by
  simp [State.closeResult]

@[simp] theorem State.checkOvershoot_kept (s : State) : s.checkOvershoot.program.Kept s.program := by
  unfold State.checkOvershoot
  split
  · split <;> simp
  · simp

@[simp] theorem State.finishRun_kept (s : State) : s.finishRun.KeptByRun s := by
  simp [State.finishRun]

@[simp] theorem State.advance_kept (s : State) : s.advance.KeptByHandover s := by
  simp [State.advance]

@[simp] theorem State.proceed_kept (s : State) : s.proceed.KeptByRun s := by
  unfold State.proceed
  split <;> simp

@[simp] theorem State.exitStep_kept (s : State) (e : EndReason) : (s.exitStep e).KeptByRun s := by
  simp [State.exitStep]

@[simp] theorem State.decideEnd_kept (s : State) : s.decideEnd.KeptByRun s := by
  unfold State.decideEnd
  split
  · split <;> simp
  · simp

@[simp] theorem State.latch_kept (s : State) (c : Condition) : (s.latch c).KeptByRun s := by
  unfold State.latch
  split <;> simp

@[simp] theorem State.skipResult_kept (s : State) : s.skipResult.program.Kept s.program := by
  unfold State.skipResult
  split <;> simp

@[simp] theorem State.holdNext_kept (s : State) : s.holdNext.KeptByHandover s := by
  simp [State.holdNext]

@[simp] theorem State.restoreStep_kept (s : State) : s.restoreStep.KeptByHandover s := by
  unfold State.restoreStep
  split <;> simp

@[simp] theorem State.resumeRun_kept (s : State) : s.resumeRun.KeptByRun s := by
  unfold State.resumeRun
  dsimp only
  split <;> simp

@[simp] theorem State.skipStep_kept (s : State) : s.skipStep.KeptByRun s := by
  unfold State.skipStep
  dsimp only
  split_ifs <;> simp

@[simp] theorem State.abortRun_kept (s : State) : s.abortRun.KeptByRun s := by
  unfold State.abortRun
  dsimp only
  split_ifs <;> simp

@[simp] theorem State.setManual_kept (s : State) (level : Nat) (heat : Option (Nat × Nat)) :
    (s.setManual level heat).KeptByHandover s := by
  simp [State.setManual]

@[simp] theorem State.answerStall_kept (s : State) : s.answerStall.KeptByHandover s := by
  unfold State.answerStall
  split
  · simp
  · split <;> simp
  all_goals simp

/-! ## Tests of a sample and of a window -/

@[simp] theorem State.testNear_kept (s : State) (g : Int) :
    (s.testNear g).weigh.Kept s.weigh ∧ (s.testNear g).weigh.kind = s.weigh.kind ∧
    (s.testNear g).weigh.tareTimer = s.weigh.tareTimer := by
  unfold State.testNear
  split
  · dsimp only
    split <;> simp
  · simp

@[simp] theorem State.testWeight_kept (s : State) : s.testWeight.KeptByRun s := by
  unfold State.testWeight
  split
  · split <;> simp
  · simp

@[simp] theorem State.testTemp_kept (s : State) : s.testTemp.KeptByRun s := by
  unfold State.testTemp
  split
  · split <;> simp
  · simp

@[simp] theorem State.derate_kept (s : State) :
    s.derate.weigh.KeptButKind s.weigh ∧ s.derate.blade.KeptFollowing s.blade ∧
    s.derate.aux.KeptButLock s.aux ∧ s.derate.budget.watts = s.budget.watts ∧
    s.derate.budget.remainder = s.budget.remainder ∧ s.derate.budget.peak = s.budget.peak := by
  unfold State.derate
  dsimp only
  split_ifs <;> simp

@[simp] theorem State.recover_kept (s : State) :
    s.recover.weigh.KeptButKind s.weigh ∧ s.recover.blade.KeptFollowing s.blade ∧
    s.recover.aux.KeptButLock s.aux ∧ s.recover.budget.watts = s.budget.watts ∧
    s.recover.budget.remainder = s.budget.remainder ∧ s.recover.budget.peak = s.budget.peak := by
  unfold State.recover
  split
  · split_ifs <;> simp
  · simp

/-- A MOTOR_I conversion touches the latest power sample and the window accumulation alone. -/
theorem State.motorReading_eq (s : State) (code : Nat) : ∃ power : Nat, s.motorReading code =
    { s with blade := { s.blade with
        power := power, powerSum := s.blade.powerSum + power, powerCount := s.blade.powerCount + 1 } } :=
  ⟨powerSample s.thermal.volts (motorCurrent code), rfl⟩

@[simp] theorem State.notePeak_kept (s : State) : s.notePeak.program.Kept s.program := by
  unfold State.notePeak
  split
  · split <;> simp
  · simp

end Sys2Proof.Machine
end

section
/-! SUPPORT. Inversion of the EDIT commands' rules (R12 to R15): each refuses and changes nothing, or makes its edit. -/

namespace Sys2Proof.Machine

@[simp] theorem refuse_fst (s : State) (code : ResultCode) : (refuse s code).1 = s := rfl

theorem Program.length_put (p : Program) (i : Nat) (r : StepRecord) :
    (p.put i r).length = if i < p.length then p.length else p.length + 1 := by
  unfold Program.put Program.length
  split <;> simp

theorem Program.length_delete {p : Program} {d : Nat} (h : d < p.length) :
    (p.delete d).length = p.length - 1 := by
  simpa [Program.delete, Program.length] using List.length_eraseIdx_of_lt h

theorem State.restState_cases (s : State) :
    (s.program.length = 0 ∧ s.restState = .idle) ∨ (0 < s.program.length ∧ s.restState = .ready) := by
  unfold State.restState
  split_ifs with h
  · exact .inl ⟨h, rfl⟩
  · exact .inr ⟨Nat.pos_of_ne_zero h, rfl⟩

/-- PUT STEP is refused, or stores its record and makes IDLE READY (R12). -/
theorem putStepRule_cases (index : Byte) (record : List Byte) (s : State) :
    (putStepRule index record s).1 = s ∨
    ∃ r, readRecord record = some r ∧ s.run.state.refusesEdits = false ∧ s.lockedIndex index.toNat = false ∧
      index.toNat ≤ s.program.length ∧ (index.toNat = s.program.length → s.program.length < 48) ∧
      ((s.run.state ≠ .idle ∧
          (putStepRule index record s).1 = { s with program := s.program.put index.toNat r }) ∨
        (s.run.state = .idle ∧
          (putStepRule index record s).1 =
            State.setRunState { s with program := s.program.put index.toNat r } .ready)) := by
  unfold putStepRule
  by_cases hstate : s.run.state.refusesEdits = true
  · simp [hstate]
  by_cases hlocked : s.lockedIndex index.toNat = true
  · simp [hstate, hlocked]
  by_cases hlength : s.program.length < index.toNat
  · simp [hstate, hlocked, hlength]
  by_cases hfull : index.toNat = s.program.length ∧ Config.tableSize ≤ s.program.length
  · simp only [if_neg hstate, if_neg hlocked, if_neg hlength, if_pos hfull, refuse_fst, true_or]
  simp only [if_neg hstate, if_neg hlocked, if_neg hlength, if_neg hfull]
  cases hread : readRecord record with
  | none => exact .inl rfl
  | some r =>
    refine .inr ⟨r, rfl, by simpa using hstate, by simpa using hlocked, by omega,
      fun heq => Nat.lt_of_not_le fun h => hfull ⟨heq, h⟩, ?_⟩
    have hput : (s.program.put index.toNat r).length ≠ 0 := by
      rw [Program.length_put]
      split_ifs <;> omega
    by_cases hidle : s.run.state = .idle
    · simp [hidle, State.restState, hput]
    · simp [hidle]

/-- DELETE STEP is refused, or removes its record and brings the cursor and the run state along (R13, R14). -/
theorem deleteStepRule_cases (index : Byte) (s : State) :
    (deleteStepRule index s).1 = s ∨
    (s.run.state.refusesEdits = false ∧ s.lockedIndex index.toNat = false ∧ index.toNat < s.program.length ∧
      let s1 : State := { s with
        program := s.program.delete index.toNat
        run := { s.run with
          cursor := if s.run.state.inRun then s.run.cursor else min s.run.cursor (s.program.length - 1) } }
      (deleteStepRule index s).1 =
        if s.program.length = 1 then s1.setRunState s.run.state.whenEmptied else s1) := by
  unfold deleteStepRule
  by_cases hstate : s.run.state.refusesEdits = true
  · simp [hstate]
  by_cases hlocked : s.lockedIndex index.toNat = true
  · simp [hstate, hlocked]
  by_cases hlength : s.program.length ≤ index.toNat
  · simp [hstate, hlocked, hlength]
  refine .inr ⟨by simpa using hstate, by simpa using hlocked, by omega, ?_⟩
  have hempty : s.program.length - 1 = 0 ↔ s.program.length = 1 := by omega
  simp [hstate, hlocked, hlength, Program.length_delete (Nat.lt_of_not_le hlength), hempty]

/-- CLEAR PROGRAM is refused, or empties the table outside a run (R15). -/
theorem clearProgramRule_cases (s : State) :
    (clearProgramRule s).1 = s ∨
    (s.run.state.refusesEdits = false ∧ s.run.state.inRun = false ∧
      (clearProgramRule s).1 = State.setRunState
        { s with program := .reset, run := { s.run with cursor := 0 } } s.run.state.whenEmptied) := by
  unfold clearProgramRule
  by_cases hstate : (s.run.state.refusesEdits || s.run.state.inRun) = true
  · simp [hstate]
  · rw [if_neg hstate]
    simp only [Bool.or_eq_true, not_or, Bool.not_eq_true] at hstate
    exact .inr ⟨hstate.1, hstate.2, rfl⟩

end Sys2Proof.Machine
end

section
/-! SUPPORT. The frames of the rules that act on one block alone. -/

namespace Sys2Proof.Machine

/-! ### All blocks but one -/

/-- Everything but the bus, the weighing unit, the notice lists, the table and the auxiliary lines. -/
@[simp] abbrev State.SameCore (t s : State) : Prop :=
  t.now = s.now ∧ t.run = s.run ∧ t.log = s.log ∧ t.blade = s.blade ∧ t.converter = s.converter ∧
  t.pending = s.pending

@[simp] abbrev State.SameButBus (t s : State) : Prop :=
  t.SameCore s ∧ t.program = s.program ∧ t.weigh = s.weigh ∧ t.thermal = s.thermal ∧ t.budget = s.budget ∧
  t.safety = s.safety ∧ t.notices = s.notices ∧ t.aux = s.aux

@[simp] abbrev State.SameButNotices (t s : State) : Prop :=
  t.SameCore s ∧ t.program = s.program ∧ t.weigh = s.weigh ∧ t.thermal = s.thermal ∧ t.budget = s.budget ∧
  t.safety = s.safety ∧ t.bus = s.bus ∧ t.aux = s.aux

@[simp] abbrev State.SameButWeigh (t s : State) : Prop :=
  t.SameCore s ∧ t.program = s.program ∧ t.thermal = s.thermal ∧ t.budget = s.budget ∧ t.safety = s.safety ∧
  t.notices = s.notices ∧ t.bus = s.bus ∧ t.aux = s.aux

@[simp] abbrev State.SameButProgram (t s : State) : Prop :=
  t.SameCore s ∧ t.weigh = s.weigh ∧ t.thermal = s.thermal ∧ t.budget = s.budget ∧ t.safety = s.safety ∧
  t.notices = s.notices ∧ t.bus = s.bus ∧ t.aux = s.aux

@[simp] abbrev State.SameButAux (t s : State) : Prop :=
  t.SameCore s ∧ t.program = s.program ∧ t.weigh = s.weigh ∧ t.thermal = s.thermal ∧ t.budget = s.budget ∧
  t.safety = s.safety ∧ t.notices = s.notices ∧ t.bus = s.bus

@[simp] abbrev State.SameButBudget (t s : State) : Prop :=
  t.SameCore s ∧ t.program = s.program ∧ t.weigh = s.weigh ∧ t.thermal = s.thermal ∧ t.safety = s.safety ∧
  t.notices = s.notices ∧ t.bus = s.bus ∧ t.aux = s.aux

@[simp] abbrev State.SameButSafety (t s : State) : Prop :=
  t.SameCore s ∧ t.program = s.program ∧ t.weigh = s.weigh ∧ t.thermal = s.thermal ∧ t.budget = s.budget ∧
  t.notices = s.notices ∧ t.bus = s.bus ∧ t.aux = s.aux

@[simp] abbrev State.SameButThermal (t s : State) : Prop :=
  t.SameCore s ∧ t.program = s.program ∧ t.weigh = s.weigh ∧ t.budget = s.budget ∧ t.safety = s.safety ∧
  t.notices = s.notices ∧ t.aux = s.aux

/-- What a CONFIG-class rule leaves outside CONFIG, it leaves. -/
theorem inConfig_keeps {P : State → Prop} {rule : State → Executed} {s : State}
    (hrule : s.run.state = .config → P (rule s).1) (h : P s) : P (inConfig rule s).1 := by
  unfold inConfig
  split_ifs with hconfig
  · exact hrule hconfig
  · exact h

@[simp] theorem clearsKey_fst (rule : State → Executed) (s : State) : (clearsKey rule s).1 =
    { (rule s).1 with safety := { (rule s).1.safety with keySequence := false } } := rfl

/-! ### The rules -/

@[simp] theorem selectViewRule_frame (p : Port) (view : Byte) (number : Half) (s : State) :
    (selectViewRule p view number s).1.SameButBus s ∧
    (selectViewRule p view number s).1.bus.queue = s.bus.queue ∧
    (selectViewRule p view number s).1.bus.writing = s.bus.writing := by
  unfold selectViewRule
  split
  · simp
  · dsimp only
    split_ifs <;> simp

@[simp] theorem takeNoticeRule_frame (p : Port) (s : State) : (takeNoticeRule p s).1.SameButNotices s := by
  unfold takeNoticeRule
  dsimp only
  split <;> simp

@[simp] theorem setSubscriptionRule_frame (p : Port) (marks : Half) (s : State) :
    (setSubscriptionRule p marks s).1.SameButNotices s := by
  simp [setSubscriptionRule]

@[simp] theorem tareRule_frame (s : State) :
    (tareRule s).1.SameButWeigh s ∧ (tareRule s).1.weigh.Kept s.weigh := by
  unfold tareRule
  split_ifs <;> simp

@[simp] theorem Program.setHold_frame (p : Program) (slot : Nat) (v : Option Nat) :
    (p.setHold slot v).steps = p.steps ∧ (p.setHold slot v).results = p.results := by
  unfold Program.setHold
  split_ifs <;> simp

@[simp] theorem setHoldPointRule_frame (slot index : Byte) (s : State) :
    (setHoldPointRule slot index s).1.SameButProgram s ∧
    (setHoldPointRule slot index s).1.program.steps = s.program.steps ∧
    (setHoldPointRule slot index s).1.program.results = s.program.results := by
  unfold setHoldPointRule
  dsimp only
  split_ifs <;> simp

@[simp] theorem clearHoldPointRule_frame (slot : Byte) (s : State) :
    (clearHoldPointRule slot s).1.SameButProgram s ∧
    (clearHoldPointRule slot s).1.program.steps = s.program.steps ∧
    (clearHoldPointRule slot s).1.program.results = s.program.results := by
  unfold clearHoldPointRule
  dsimp only
  split_ifs <;> simp

/-- The auxiliary block but its lines. -/
@[simp] abbrev Aux.SameButLines (t s : Aux) : Prop :=
  t.lockEngaged = s.lockEngaged ∧ t.lockedAt = s.lockedAt ∧ t.buzzer = s.buzzer ∧ t.stepMark = s.stepMark ∧
  t.lamp = s.lamp ∧ t.lampDue = s.lampDue

@[simp] theorem setLineLevelRule_frame (line level : Byte) (pin : Bool) (s : State) :
    (setLineLevelRule line level pin s).1.SameButAux s ∧
    (setLineLevelRule line level pin s).1.aux.SameButLines s.aux := by
  unfold setLineLevelRule
  dsimp only
  split_ifs <;> simp [Aux.setLatch, Aux.sensePin]

@[simp] theorem setLineFunctionRule_frame (line function : Byte) (pin : Bool) (s : State) :
    (setLineFunctionRule line function pin s).1.SameButAux s ∧
    (setLineFunctionRule line function pin s).1.aux.SameButLines s.aux := by
  unfold setLineFunctionRule
  dsimp only
  split
  · simp
  · split_ifs <;> simp [Aux.setFunction, Aux.sensePin]

@[simp] theorem setAcceptanceRule_frame (p : Port) (port filter enable code mask : Byte) (s : State) :
    (setAcceptanceRule p port filter enable code mask s).1.SameButBus s ∧
    (setAcceptanceRule p port filter enable code mask s).1.bus.queue = s.bus.queue ∧
    (setAcceptanceRule p port filter enable code mask s).1.bus.writing = s.bus.writing := by
  unfold setAcceptanceRule
  split
  · simp
  · dsimp only
    split_ifs <;> simp

@[simp] theorem setServiceRule_frame (choice : Byte) (s : State) :
    (setServiceRule choice s).1.SameButBus s ∧ (setServiceRule choice s).1.bus.queue = s.bus.queue ∧
    (setServiceRule choice s).1.bus.writing = s.bus.writing := by
  unfold setServiceRule
  split_ifs <;> simp

@[simp] theorem setBudgetRule_frame (watts : Half) (s : State) :
    (setBudgetRule watts s).1.SameButBudget s ∧ (setBudgetRule watts s).1.budget.remainder = s.budget.remainder ∧
    (setBudgetRule watts s).1.budget.ceiling = s.budget.ceiling := by
  simp [setBudgetRule]

@[simp] theorem setLineFilterRule_frame (interval : Byte) (s : State) :
    let u := (setLineFilterRule interval s).1
    u.SameButSafety s ∧ u.safety.heatPermit.active = s.safety.heatPermit.active ∧
    u.safety.motionPermit.active = s.safety.motionPermit.active ∧
    u.safety.lidClosed.active = s.safety.lidClosed.active ∧ u.safety.stopN = s.safety.stopN ∧
    u.safety.stopLatch = s.safety.stopLatch ∧ u.safety.limit = s.safety.limit ∧ u.safety.lease = s.safety.lease ∧
    u.safety.period = s.safety.period ∧ u.safety.locked = s.safety.locked ∧ u.safety.count = s.safety.count := by
  unfold setLineFilterRule
  dsimp only
  split_ifs <;> simp [Filtered.restart]

@[simp] theorem setScalePolicyRule_frame (pairs policy : Byte) (still motion threshold : Half) (s : State) :
    let u := (setScalePolicyRule pairs policy still motion threshold s).1
    u.SameButWeigh s ∧ u.weigh.history = s.weigh.history ∧ u.weigh.recent = s.weigh.recent ∧
    u.weigh.settled = s.weigh.settled ∧ u.weigh.reported = s.weigh.reported ∧ u.weigh.tare = s.weigh.tare := by
  unfold setScalePolicyRule
  dsimp only
  split
  · split_ifs <;> simp
  · simp

@[simp] theorem loadScaleCalibrationRule_frame (zero : Tri) (gain tc tcal : Half) (s : State) :
    let u := (loadScaleCalibrationRule zero gain tc tcal s).1
    u.SameButWeigh s ∧ u.weigh.history = [] ∧ u.weigh.recent = [] ∧ u.weigh.settled = none ∧
    u.weigh.reported = s.weigh.reported ∧ u.weigh.tare = s.weigh.tare := by
  simp [loadScaleCalibrationRule]

/-- The thermal unit but its settings. -/
@[simp] abbrev Thermal.SameButSettings (t s : Thermal) : Prop :=
  t.base = s.base ∧ t.element = s.element ∧ t.cell = s.cell ∧ t.baseHistory = s.baseHistory ∧ t.hot = s.hot ∧
  t.mains = s.mains ∧ t.setPoint = s.setPoint ∧ t.grant = s.grant ∧ t.gate = s.gate

@[simp] theorem loadHeaterDataRule_frame (rh rating kmains : Half) (s : State) :
    let u := (loadHeaterDataRule rh rating kmains s).1
    u.SameButThermal s ∧ u.bus = s.bus ∧ u.thermal.SameButSettings s.thermal := by
  simp [loadHeaterDataRule]

@[simp] theorem loadTableFirstRule_frame (p : Port) (half : Byte) (points : List RawPoint) (s : State) :
    (loadTableFirstRule p half points s).1.SameButBus s ∧
    (loadTableFirstRule p half points s).1.bus.queue = s.bus.queue ∧
    (loadTableFirstRule p half points s).1.bus.writing = s.bus.writing := by
  unfold loadTableFirstRule
  split_ifs <;> simp

@[simp] theorem loadTableSecondRule_frame (p : Port) (half : Byte) (points : List RawPoint) (s : State) :
    let u := (loadTableSecondRule p half points s).1
    u.SameButThermal s ∧ u.bus.queue = s.bus.queue ∧ u.bus.writing = s.bus.writing ∧
    u.thermal.SameButSettings s.thermal ∧ u.thermal.rating = s.thermal.rating := by
  unfold loadTableSecondRule
  dsimp only
  split_ifs
  · split
    · split_ifs
      · unfold loadTable
        dsimp only
        split_ifs <;> simp
      · simp
    · simp
  · simp

/-- The safety block but the lease's count with its timer, and the key sequence flag. -/
@[simp] abbrev Safety.SameButCount (t s : Safety) : Prop :=
  t.interval = s.interval ∧ t.samplerDue = s.samplerDue ∧ t.heatPermit = s.heatPermit ∧
  t.motionPermit = s.motionPermit ∧ t.lidClosed = s.lidClosed ∧ t.stopN = s.stopN ∧
  t.stopLatch = s.stopLatch ∧ t.limit = s.limit ∧ t.lease = s.lease ∧ t.period = s.period ∧ t.locked = s.locked

@[simp] theorem leaseKeyARule_frame (s : State) :
    (leaseKeyARule s).1.SameButSafety s ∧ (leaseKeyARule s).1.safety.SameButCount s.safety ∧
    (leaseKeyARule s).1.safety.count = s.safety.count := by
  simp [leaseKeyARule]

@[simp] theorem leaseKeyBRule_frame (s : State) :
    (leaseKeyBRule s).1.SameButSafety s ∧ (leaseKeyBRule s).1.safety.SameButCount s.safety := by
  unfold leaseKeyBRule
  dsimp only
  split_ifs <;> simp

end Sys2Proof.Machine
end

section
/-! SUPPORT. What one step can do to the part, command by command and event by event: the cases that a promise of every
step goes through. -/

namespace Sys2Proof.Machine

theorem codeAndParams_of_ruleOf {i : Instr} {rule : State → Executed} (h : ruleOf i = some rule) :
    ∃ p code params, codeAndParams i = some (p, code, params) := by
  cases i <;> simp only [ruleOf, reduceCtorEq] at h <;> exact ⟨_, _, _, rfl⟩

/-- The bus as it is when a command's rule acts: as it was, or with the front frame taken. -/
abbrev Bus.TakenFrom (b before : Bus) : Prop :=
  b = before ∨ ∃ f rest, before.queue = f :: rest ∧ b = { before with queue := rest }

/-- What a command can do: nothing, a refusal that writes its reply, or its rule and then the reply; only the bus differs
before the rule acts. -/
theorem exec_command_cases {i : Instr} {rule : State → Executed} {s t : State} (hrule : ruleOf i = some rule)
    (ht : exec i s = .next t) : ∃ b : Bus, b.TakenFrom s.bus ∧
      (t = s ∨ (∃ p code r, t = State.recordReply { s with bus := b } p code r) ∨
        ∃ p code r, t = State.recordReply (rule { s with bus := b }).1 p code r) := by
  obtain ⟨p, code, params, hcode⟩ := codeAndParams_of_ruleOf hrule
  obtain ⟨rule', hrule', hexec⟩ := exec_eq_runCommand hcode
  obtain rfl : rule' = rule := Option.some.inj (hrule'.symm.trans hrule)
  rw [hexec] at ht
  obtain rfl := Host.Outcome.next.inj ht
  cases htaken : s.takeFrame ⟨p, frameBytesOf code params, decide (38 < params.length)⟩ with
  | none => exact ⟨s.bus, .inl rfl, .inl (runCommand_of_not_taken htaken)⟩
  | some s1 =>
    have hbus : ∃ b : Bus, b.TakenFrom s.bus ∧ s1 = { s with bus := b } := by
      rcases State.takeFrame_cases htaken with ⟨rest, hqueue, h⟩ | ⟨-, -, -, h⟩
      · exact ⟨_, .inr ⟨_, rest, hqueue, rfl⟩, h⟩
      · exact ⟨s.bus, .inl rfl, h⟩
    obtain ⟨b, hb, rfl⟩ := hbus
    refine ⟨b, hb, .inr ?_⟩
    rw [runCommand_of_taken htaken]
    rcases interpret_cases { s with bus := b } ⟨p, frameBytesOf code params, decide (38 < params.length)⟩ code rule'
      with ⟨-, h⟩ | ⟨-, -, h⟩ | ⟨-, -, -, h⟩ | ⟨-, -, -, h⟩ <;> rw [h]
    · exact .inl ⟨p, _, _, rfl⟩
    · exact .inl ⟨p, _, _, rfl⟩
    · exact .inl ⟨p, _, _, rfl⟩
    · exact .inr ⟨p, _, _, rfl⟩

theorem step_cases {s t : State} (ht : step s = .next t) :
    t = s ∨ ∃ i rest, exec i { s with pending := rest } = .next t := by
  unfold step at ht
  split at ht
  · exact .inl (Host.Outcome.next.inj ht).symm
  · exact .inr ⟨_, _, ht⟩

end Sys2Proof.Machine
end

section
/-! SUPPORT. What heater, motor and their outputs read of the part, and the bridge from there to every step: `Handed`
lists what a promise about them must survive, and `Handed.step` says that it then survives every step. -/

namespace Sys2Proof.Machine

/-! ## What the promises read -/

/-- The run states in which the blade may be driven (R121). -/
def RunState.drives : RunState → Bool
  | .running | .manual => true
  | _ => false

/-- The fields of the blocks that the promises about heater and motor read. -/
@[simp] abbrev State.SameParts (t s : State) : Prop :=
  t.thermal.setPoint = s.thermal.setPoint ∧ t.thermal.grant = s.thermal.grant ∧ t.thermal.gate = s.thermal.gate ∧
  t.thermal.rating = s.thermal.rating ∧ t.thermal.base = s.thermal.base ∧
  t.thermal.baseHistory = s.thermal.baseHistory ∧ t.thermal.element = s.thermal.element ∧
  t.thermal.hot = s.thermal.hot ∧ t.thermal.mains = s.thermal.mains ∧
  t.blade.stir = s.blade.stir ∧ t.blade.intervalOn = s.blade.intervalOn ∧
  t.blade.wantDirection = s.blade.wantDirection ∧ t.blade.direction = s.blade.direction ∧
  t.blade.commanded = s.blade.commanded ∧ t.blade.effective = s.blade.effective ∧ t.blade.ramp = s.blade.ramp ∧
  t.blade.settle = s.blade.settle ∧ t.blade.inverter = s.blade.inverter ∧
  t.blade.stallTimer = s.blade.stallTimer ∧ t.blade.actual = s.blade.actual ∧
  t.safety.stopLatch = s.safety.stopLatch ∧ t.safety.heatPermit.active = s.safety.heatPermit.active ∧
  t.safety.motionPermit.active = s.safety.motionPermit.active ∧
  t.safety.lidClosed.active = s.safety.lidClosed.active ∧ t.safety.lease = s.safety.lease ∧
  t.safety.limit = s.safety.limit ∧ t.budget.remainder = s.budget.remainder ∧
  t.budget.ceiling = s.budget.ceiling ∧ t.aux.lockEngaged = s.aux.lockEngaged

/-- What they read of the run state. -/
@[simp] abbrev RunState.SameGates (t s : RunState) : Prop := t.halts = s.halts ∧ t.drives = s.drives

/-- What the heat set point of R106 is read from. -/
@[simp] abbrev State.SamePoint (t s : State) : Prop :=
  t.run.state = s.run.state ∧ t.run.phase = s.run.phase ∧ t.run.cursor = s.run.cursor ∧
  t.run.manualHeat = s.run.manualHeat ∧ t.program.steps = s.program.steps

theorem State.heatPoint_eq {s t : State} (h : t.SamePoint s) : t.heatPoint = s.heatPoint := by
  obtain ⟨hstate, hphase, hcursor, hheat, hsteps⟩ := h
  simp [State.heatPoint, State.activeRecord, State.stepActive, State.record, hstate, hphase, hcursor, hheat, hsteps]

@[simp] theorem State.restState_sameGates (s : State) :
    s.restState.halts = false ∧ s.restState.drives = false ∧ s.restState.inRun = false := by
  unfold State.restState
  split_ifs <;> simp [RunState.halts, RunState.drives, RunState.inRun]

@[simp] theorem RunState.whenEmptied_sameGates (r : RunState) :
    r.whenEmptied.halts = r.halts ∧ r.whenEmptied.drives = r.drives ∧ r.whenEmptied.inRun = r.inRun := by
  cases r <;> simp [RunState.whenEmptied, RunState.halts, RunState.drives, RunState.inRun]

/-- The state of a run, and MANUAL, stay where the table is emptied (R14, R15). -/
theorem RunState.whenEmptied_cases (r : RunState) : r.whenEmptied = r ∨ r.halts = false := by
  cases r <;> simp [RunState.whenEmptied, RunState.halts]

theorem State.heatPoint_of_not_halts {s : State} (h : s.run.state.halts = false) : s.heatPoint = none := by
  unfold State.heatPoint
  cases hstate : s.run.state <;> simp_all [RunState.halts]

/-- An edit beyond what a run has reached leaves the heat set point of R106. -/
theorem State.heatPoint_edited {s t : State}
    (hstate : t.run.state = s.run.state ∨ t.run.state.halts = false ∧ s.run.state.halts = false)
    (hphase : t.run.phase = s.run.phase) (hheat : t.run.manualHeat = s.run.manualHeat)
    (hrecord : s.run.state.inRun = true → t.record = s.record) : t.heatPoint = s.heatPoint := by
  rcases hstate with hstate | ⟨ht, hs⟩
  · unfold State.heatPoint State.activeRecord State.stepActive
    cases h : s.run.state <;> simp_all [RunState.inRun]
  · rw [State.heatPoint_of_not_halts ht, State.heatPoint_of_not_halts hs]

/-- The conditions of heat enable beside the run state (R110). -/
def State.heatConditions (s : State) : Bool :=
  !s.safety.stopLatch && s.safety.heatPermit.active && s.safety.lidClosed.active && s.leaseLive &&
    s.thermal.base.isValid && s.thermal.element.isValid && !s.mainsLost && !s.thermal.hot

theorem State.heatEnabled_eq (s : State) : s.heatEnabled = (s.heatConditions && s.run.state.halts) := by
  cases h : s.run.state <;> simp [State.heatEnabled, State.heatConditions, RunState.inRun, RunState.halts, h]

theorem State.commandedLevel_eq (s : State) :
    s.commandedLevel = if s.motionEnabled && s.run.state.drives then s.blade.asked else 0 := by
  cases h : s.run.state <;> simp [State.commandedLevel, RunState.drives, h]

theorem State.heatConditions_congr {s t : State} (h : t.SameParts s) : t.heatConditions = s.heatConditions := by
  simp_all [State.heatConditions, State.leaseLive, State.mainsLost]

theorem State.heatEnabled_congr {s t : State} (h : t.SameParts s) (hstate : t.run.state.halts = s.run.state.halts) :
    t.heatEnabled = s.heatEnabled := by
  rw [State.heatEnabled_eq, State.heatEnabled_eq, State.heatConditions_congr h, hstate]

theorem State.motionEnabled_congr {s t : State} (h : t.SameParts s) : t.motionEnabled = s.motionEnabled := by
  simp_all [State.motionEnabled, State.leaseLive, State.mainsLost]

theorem State.commandedLevel_congr {s t : State} (h : t.SameParts s)
    (hstate : t.run.state.drives = s.run.state.drives) : t.commandedLevel = s.commandedLevel := by
  rw [State.commandedLevel_eq, State.commandedLevel_eq, State.motionEnabled_congr h, hstate]
  simp_all [Blade.asked]

/-! ## What a promise must survive -/

/-- Everything but what a cut of the grant and a change of the bounds of R111 touch. -/
@[simp] abbrev State.SameButGrant (t s : State) : Prop :=
  State.SameParts { t with
    thermal := { t.thermal with grant := s.thermal.grant, gate := s.thermal.gate, rating := s.thermal.rating }
    safety := { t.safety with limit := s.safety.limit }
    budget := { t.budget with remainder := s.budget.remainder } } s

/-- The heater's own fields and bounds, and whatever else only handovers and cuts change. -/
@[simp] abbrev State.SameHeater (t s : State) : Prop :=
  t.thermal.setPoint = s.thermal.setPoint ∧ t.thermal.grant = s.thermal.grant ∧ t.thermal.gate = s.thermal.gate ∧
  t.thermal.rating = s.thermal.rating ∧ t.safety.limit = s.safety.limit ∧ t.budget.remainder = s.budget.remainder

/-- A promise `P` about heater and motor, with the looser promise `Q` that holds while the run state changes and
before the set points are handed over. `R` is what the promise may ask of the state before a step. -/
structure Handed (R P Q : State → Prop) : Prop where
  /-- The promise reads no more than this. -/
  congr : ∀ {s t : State}, t.SameParts s → t.run.state.SameGates s.run.state → t.heatPoint = s.heatPoint → P s → P t
  /-- An edit of the table, which keeps the set point of a sound run. -/
  edited : ∀ {s t : State}, R s → t.SameParts s → t.run.state.SameGates s.run.state →
    (s.RunSound → t.heatPoint = s.heatPoint) → P s → P t
  /-- A run that begins where the table holds no record: no sound run does. -/
  unreached : ∀ {s t : State}, R s → (s.RunSound → False) → s.run.state.drives = false → t.SameParts s →
    t.run.state = .running → P s → P t
  bus : ∀ {s : State} b, R s → R { s with bus := b }
  loose : ∀ {s : State}, P s → Q s
  rerun : ∀ {s t : State}, t.SameParts s → Q s → Q t
  derate : ∀ {s : State}, Q s → Q s.removeDerate
  /-- Both set points are handed over. -/
  handStirHeat : ∀ {s : State} p, Q s → P (s.handStir p).handHeat
  handHeatStir : ∀ {s : State} p, Q s → P (s.handHeat.handStir p)
  /-- The blade follows a change of its own block, of the budget or of the conditions, with no enable lost. -/
  follow : ∀ {s t : State}, t.SameHeater s → t.run.state.SameGates s.run.state → t.heatPoint = s.heatPoint →
    (s.heatEnabled = true → t.heatEnabled = true) → (s.motionEnabled = true → t.motionEnabled = true) →
    (0 < t.blade.effective → (0 < s.blade.effective ∨ s.blade.rising = true) ∧
      t.blade.inverter = s.blade.inverter) →
    P s → P t.updateBlade
  /-- The conditions change, and what they enabled ends. -/
  gates : ∀ {s t : State}, t.SameHeater s → t.run.state = s.run.state → t.heatPoint = s.heatPoint → t.blade = s.blade →
    P s → P (s.gates t)
  cut : ∀ {s t : State}, t.SameButGrant s → t.run.state.SameGates s.run.state → t.heatPoint = s.heatPoint →
    t.thermal.grant = 0 → t.thermal.gate = false → P s → P t
  /-- The inverter ceases to drive. -/
  release : ∀ {s : State} x, x ≠ .driving →
    P s → P { s with blade := { s.blade with
      effective := 0, ramp := none, settle := none, inverter := x, stallTimer := none } }
  rest : ∀ {s : State}, P s → P s.endRest
  /-- LOAD HEATER DATA changes the rating in CONFIG alone. -/
  rated : ∀ {s : State} r, s.run.state = .config → P s → P { s with thermal := { s.thermal with rating := r } }
  /-- A safety limit that is not below the grant. -/
  limited : ∀ {s : State} w, s.thermal.grant ≤ w → P s → P { s with safety := { s.safety with limit := w } }
  warm : ∀ {s : State}, P s → P s.warmReset
  powerOn : ∀ a n, P (State.powerOn a n)

namespace Handed
variable {R P Q : State → Prop} (H : Handed R P Q) {s t : State}
include H

theorem quiet (hparts : t.SameParts s) (hpoint : t.SamePoint s) (h : P s) : P t :=
  H.congr hparts (by simp [hpoint.1]) (State.heatPoint_eq hpoint) h

theorem send (kind : NoticeKind) (index : Option Nat) (value : Option NoticeValue) (h : P s) :
    P (s.send kind index value) :=
  H.quiet (by simp) (by simp) h

theorem editResult (f : StepResult → StepResult) (h : P s) : P (s.editResult f) :=
  H.quiet (by simp) (by simp) h

theorem handStir (p : StirPoint) (h : P s) : P (s.handStir p) := by
  refine H.follow (by simp) (by simp) (State.heatPoint_eq (by simp)) ?_ ?_ (by simp; exact fun h => .inl h) h
  · simp [State.heatEnabled, State.leaseLive, State.mainsLost]
  · simp [State.motionEnabled, State.leaseLive, State.mainsLost]

theorem handIdle (h : Q s) : P s.handIdle := H.handStirHeat _ h

/-! ### Heat and inverter -/

theorem cutGrant (h : P s) : P s.cutGrant :=
  H.cut (by simp) (by simp) (State.heatPoint_eq (by simp)) (by simp) (by simp) h

theorem updateVent (h : P s) : P s.updateVent := H.quiet (by simp) (by simp) h

/-- With the inverter not DRIVING there is no stall condition, so the stall timer is discarded (R131). -/
theorem stalled {x : Inverter} (hx : x ≠ .driving) (h : P s) :
    P (State.updateStall { s with blade := { s.blade with
      effective := 0, ramp := none, settle := none, inverter := x } }) := by
  simpa [State.updateStall, Blade.stallCondition, hx] using H.release x hx h

theorem brake (h : P s) : P s.brake :=
  H.rest (H.stalled (by split <;> simp) h)

theorem inverterOff (h : P s) : P s.inverterOff := H.stalled (by simp) h

/-! ### The run controller -/

theorem hold (h : Q s) : P s.hold := H.handIdle (H.rerun (by simp) h)

theorem addCauses (c : CauseSet) (h : P s) : P (s.addCauses c) := by
  have hset : P (s.setCauses (s.run.causes.union c)) := H.quiet (by simp) (by simp) h
  unfold State.addCauses
  dsimp only
  split_ifs
  · exact h
  · exact H.send _ _ _ (H.hold (H.loose hset))
  · exact H.send _ _ _ hset

theorem examineRun (h : P s) : P s.examineRun := by
  unfold State.examineRun
  dsimp only
  split_ifs
  · exact H.quiet (by simp) (by simp) h
  · exact H.addCauses _ (H.quiet (by simp) (by simp) h)
  · exact h

theorem endManual (h : Q s) : P s.endManual := H.handIdle (H.rerun (by simp) h)

theorem examineManual (h : P s) : P s.examineManual := by
  unfold State.examineManual
  dsimp only
  split_ifs
  · exact H.send _ _ _ (H.endManual (H.loose h))
  · exact h

theorem examine (h : P s) : P s.examine := H.examineManual (H.examineRun h)

theorem stopAll (r : RunState) (h : Q s) : P (s.stopAll r) :=
  H.brake (H.handIdle (H.rerun (by simp) h))

theorem enterHalted (h : Q s) : P s.enterHalted := H.send _ _ _ (H.stopAll _ h)

theorem enterFaulted (h : Q s) : P s.enterFaulted := H.send _ _ _ (H.stopAll _ h)

theorem announceStep (r : StepRecord) (h : P s) : P (s.announceStep r) := by
  refine H.quiet ?_ (by simp) h
  simp

/-- An entry hands over the set points of its step. -/
theorem enterStep_of_record {r : StepRecord} (hr : s.record = some r) (h : Q s) : P s.enterStep := by
  have hbegun : Q (s.beginStep r) := H.rerun (by simp) h
  rw [State.enterStep, hr]
  exact H.examineRun (H.announceStep r (H.handHeatStir _ (H.derate hbegun)))

theorem enterStep (h : P s) : P s.enterStep := by
  cases hr : s.record with
  | none => rw [State.enterStep, hr]; exact h
  | some r => exact H.enterStep_of_record hr (H.loose h)

theorem arrive (h : P s) : P s.arrive := by
  unfold State.arrive
  split_ifs
  · exact H.addCauses _ h
  · exact H.enterStep h

theorem finishRun (h : Q s) : P s.finishRun := by
  have hdone : P (((s.setCauses {}).setRunState .done).closeLog).handIdle := H.handIdle (H.rerun (by simp) h)
  exact H.quiet (by simp [State.finishRun, State.startBuzzer]) (by simp [State.finishRun]) hdone

theorem advance (h : Q s) : P s.advance := H.examineRun (H.handIdle (H.rerun (by simp) h))

theorem proceed (h : P s) : P s.proceed := by
  unfold State.proceed
  split_ifs
  · exact H.finishRun (H.loose h)
  · exact H.arrive h

theorem exitStep (reason : EndReason) (h : P s) : P (s.exitStep reason) := by
  refine H.proceed (H.advance (H.rerun ?_ (H.loose h)))
  simp

theorem decideEnd (h : P s) : P s.decideEnd := by
  unfold State.decideEnd
  split
  · split
    · exact H.exitStep _ h
    · exact h
  · exact h

theorem latch (c : Condition) (h : P s) : P (s.latch c) := by
  unfold State.latch
  split_ifs
  · exact H.decideEnd (H.quiet (by simp) (by simp) h)
  · exact H.decideEnd (H.quiet (by simp) (by simp) h)
  · exact h

theorem setStopLatch (h : P s) : P s.setStopLatch := by
  have hgates : P (s.gates { s with safety := { s.safety with stopLatch := true } }) :=
    H.gates (by simp) rfl (State.heatPoint_eq (by simp)) rfl h
  unfold State.setStopLatch
  dsimp only
  split_ifs
  · exact h
  · exact H.enterHalted (H.loose hgates)
  · exact hgates

theorem lapse (h : P s) : P s.lapse := by
  have hgates : P (s.gates { s with safety := { s.safety with
      lease := .lapsed, count := 0, keySequence := false } }) :=
    H.gates (by simp) rfl (State.heatPoint_eq (by simp)) rfl h
  unfold State.lapse
  dsimp only
  split_ifs
  · exact H.enterFaulted (H.loose hgates)
  · exact H.enterHalted (H.loose hgates)
  · exact H.send _ _ _ hgates

/-! ### Commands -/

theorem restoreStep (h : Q s) : P s.restoreStep := by
  unfold State.restoreStep
  split
  · exact H.handHeatStir _ h
  · exact H.handIdle h

theorem resumeRun (hR : R s) (hstate : s.run.state = .held) (h : P s) : P s.resumeRun := by
  unfold State.resumeRun
  dsimp only
  split_ifs with hphase
  · exact H.decideEnd (H.restoreStep (H.rerun (by simp) (H.loose h)))
  · cases hr : s.record with
    | some r => exact H.enterStep_of_record (r := r) (by simpa [State.record] using hr) (H.rerun (by simp) (H.loose h))
    | none =>
      rw [State.enterStep]
      simp only [State.record] at hr
      simp only [State.record, State.setRunState_run, State.setRunState_program, State.setCauses_run,
        State.setCauses_program, hr]
      refine H.unreached hR (fun hsound => ?_) (by simp [hstate, RunState.drives]) (by simp) (by simp) h
      have hcursor := hsound.2.1 (by simp [hstate, RunState.inRun])
      exact absurd hcursor (Nat.not_lt.mpr (List.getElem?_eq_none_iff.mp hr))

/-- An arrival that finds the set empty hands over set points: by the hold, or by the entry of a step (R25). -/
theorem arrive_of_empty (hstate : s.run.state = .running) (hcauses : s.run.causes = {})
    (hrecord : s.record ≠ none) (h : Q s) : P s.arrive := by
  unfold State.arrive
  split_ifs
  · have hheld : P (s.setCauses { holdPoint := true }).hold := H.hold (H.rerun (by simp) h)
    have hstep : s.addCauses { holdPoint := true } = ((s.setCauses { holdPoint := true }).hold.send .held
        (some (s.setCauses { holdPoint := true }).hold.run.cursor) (some (.causes { holdPoint := true }))) := by
      simp [State.addCauses, hcauses, hstate, CauseSet.union, RunState.inRun]
    rw [hstep]
    exact H.send _ _ _ hheld
  · obtain ⟨r, hr⟩ := Option.ne_none_iff_exists'.mp hrecord
    exact H.enterStep_of_record hr h

theorem startRun (hR : R s) (hstate : s.run.state = .ready ∨ s.run.state = .done) (h : P s) : P s.startRun := by
  unfold State.startRun
  dsimp only
  cases hsteps : s.program.steps with
  | cons r rest =>
    refine H.arrive_of_empty (by simp) (by simp) ?_ (H.rerun (by simp) (H.loose h))
    simp [State.record]
  | nil =>
    have hunreached {t : State} (hparts : t.SameParts s) (hrun : t.run.state = .running) : P t := by
      refine H.unreached hR (fun hsound => ?_) ?_ hparts hrun h
      · have := hsound.2.2.2.2.2.2.2.2 hstate
        simp [Program.length, hsteps] at this
      · rcases hstate with hstate | hstate <;> simp [hstate, RunState.drives]
    refine H.arrive (hunreached (by simp) (by simp))

theorem skipStep (h : P s) : P s.skipStep := by
  have hresult : P s.skipResult := by
    unfold State.skipResult
    split_ifs
    · exact H.send _ _ _ (H.editResult _ h)
    · exact H.editResult _ h
  have hadvance := H.advance (H.loose hresult)
  unfold State.skipStep
  dsimp only
  split_ifs
  · exact H.finishRun (H.loose hadvance)
  · exact H.addCauses _ (H.quiet (by simp) (by simp) hadvance)
  · exact H.proceed hadvance

theorem abortRun (h : Q s) : P s.abortRun := by
  unfold State.abortRun
  dsimp only
  split_ifs
  · exact H.handIdle (H.rerun (by simp) h)
  · exact H.handIdle (H.rerun (by simp) h)

theorem setManual (level : Nat) (heat : Option (Nat × Nat)) (h : Q s) : P (s.setManual level heat) :=
  H.handHeatStir _ (H.derate (H.rerun (by simp) h))

/-! ### Events -/

theorem answerStall (h : P s) : P s.answerStall := by
  unfold State.answerStall
  split
  · exact H.addCauses _ h
  · split_ifs
    · exact H.handStir _ (H.quiet (by simp) (by simp) h)
    · exact H.endManual (H.loose h)
  all_goals exact h

theorem testTemp (h : P s) : P s.testTemp := by
  unfold State.testTemp
  split
  · split_ifs
    · exact H.latch _ h
    · exact h
  · exact h

theorem testWeight (h : P s) : P s.testWeight := by
  unfold State.testWeight
  split
  · split_ifs
    · exact H.latch _ h
    · exact h
  · exact h

theorem validSample (codes : List (Tri × Tri)) (h : P s) : P (s.validSample codes) := by
  refine H.testWeight (H.quiet ?_ ?_ h)
  · simp
  · simp

theorem sampleLine (l : SlowLine) (level : Bool) (h : P s) : P (s.sampleLine l level) := by
  unfold State.sampleLine
  dsimp only
  split_ifs with hactive
  · refine H.quiet ?_ (by simp) h
    cases l <;> simpa [Safety.setLine, Safety.line] using hactive
  · refine H.examine (H.send _ _ _ (H.gates ?_ rfl (State.heatPoint_eq (by simp)) rfl h))
    cases l <;> simp [Safety.setLine]

theorem armLease (period : Nat) (locked : Bool) (h : P s) : P (s.armLease period locked) :=
  H.examine (H.gates (by simp) rfl (State.heatPoint_eq (by simp)) rfl h)

theorem disarmLease (h : P s) : P s.disarmLease :=
  H.examine (H.gates (by simp) rfl (State.heatPoint_eq (by simp)) rfl h)

theorem notePeak (h : P s) : P s.notePeak := H.quiet (by simp) (by simp) h

theorem baseReading (r : Reading) (h : P s) : P (s.baseReading r) := by
  have hgates : P (s.gates { s with thermal := { s.thermal with
      base := r, baseHistory := historyAfter s.thermal.baseHistory r } }) :=
    H.gates (by simp) rfl (State.heatPoint_eq (by simp)) rfl h
  have hpeak := H.notePeak (H.updateVent hgates)
  unfold State.baseReading
  dsimp only
  split_ifs
  · exact H.examine (H.send _ _ _ (H.cutGrant hpeak))
  · exact H.examine hpeak

theorem elementReading (r : Reading) (h : P s) : P (s.elementReading r) := by
  have hgates : P (s.gates { s with thermal := { s.thermal with
      element := r, hot := hotAfter s.thermal.hot r } }) :=
    H.gates (by simp) rfl (State.heatPoint_eq (by simp)) rfl h
  unfold State.elementReading
  dsimp only
  split_ifs
  · exact H.send _ _ _ (H.cutGrant hgates)
  · exact H.send _ _ _ (H.cutGrant hgates)
  · exact hgates

theorem sendMains (m : MainsState) (h : P s) : P (s.sendMains m) := H.quiet (by simp) (by simp) h

theorem setMains (m : MainsState) (h : P s) : P (s.setMains m) := by
  have hgates : P (s.gates { s with thermal := { s.thermal with mains := m } }) :=
    H.gates (by simp) rfl (State.heatPoint_eq (by simp)) rfl h
  unfold State.setMains
  dsimp only
  split_ifs
  · exact h
  · exact H.examine (H.sendMains m (H.inverterOff hgates))
  · exact H.examine (H.sendMains m (H.rest hgates))

theorem mainsReading (live : Bool) (code : Nat) (h : P s) : P (s.mainsReading live code) := by
  unfold State.mainsReading
  dsimp only
  split_ifs
  · exact H.setMains _ (H.quiet (by simp) (by simp) h)
  · exact h

theorem motorReading (code : Nat) (h : P s) : P (s.motorReading code) := by
  obtain ⟨power, hpower⟩ := s.motorReading_eq code
  rw [hpower]
  exact H.quiet (by simp) (by simp) h

theorem deliver (channel : Channel) (live : Bool) (code : Nat) (h : P s) : P (s.deliver channel live code) := by
  unfold State.deliver
  cases channel with
  | mains => exact H.mainsReading _ _ h
  | base => exact H.baseReading _ h
  | element => exact H.elementReading _ h
  | cell => exact H.quiet (by simp) (by simp) h
  | motorI => exact H.motorReading _ h

/-! ### Every command -/

theorem clearsKey {rule : State → Executed} (h : P (rule s).1) : P (clearsKey rule s).1 :=
  H.quiet (by simp) (by simp) h

theorem putStepRule (index : Byte) (record : List Byte) (hR : R s) (h : P s) :
    P (putStepRule index record s).1 := by
  rcases putStepRule_cases index record s with heq | ⟨r, -, -, hlocked, hindex, -, ⟨-, heq⟩ | ⟨hidle, heq⟩⟩ <;> rw [heq]
  · exact h
  · refine H.edited hR (by simp) (by simp) (fun hsound => State.heatPoint_edited (.inl rfl) rfl rfl fun hrun => ?_) h
    have hcursor : s.run.cursor < index.toNat := by simpa [State.lockedIndex, hrun] using hlocked
    have hlength : s.run.cursor < s.program.steps.length := hsound.2.1 hrun
    simp only [State.record, Program.put]
    split_ifs
    · exact List.getElem?_set_ne (by omega)
    · exact List.getElem?_append_left hlength
  · refine H.edited hR (by simp) (by simp [hidle, RunState.halts, RunState.drives]) (fun _ => ?_) h
    rw [State.heatPoint_of_not_halts (by simp [RunState.halts]),
      State.heatPoint_of_not_halts (by simp [hidle, RunState.halts])]

theorem deleteStepRule (index : Byte) (hR : R s) (h : P s) : P (deleteStepRule index s).1 := by
  rcases deleteStepRule_cases index s with heq | ⟨-, hlocked, hindex, heq⟩ <;> rw [heq]
  · exact h
  · have hrecord (hrun : s.run.state.inRun = true) : (s.program.delete index.toNat).steps[s.run.cursor]? = s.record := by
      have hcursor : s.run.cursor < index.toNat := by simpa [State.lockedIndex, hrun] using hlocked
      exact List.getElem?_eraseIdx_of_lt hcursor
    by_cases hempty : s.program.length = 1
    · simp only [if_pos hempty]
      refine H.edited hR (by simp) (by simp) (fun _ => State.heatPoint_edited ?_ rfl rfl fun hrun => ?_) h
      · simpa using RunState.whenEmptied_cases s.run.state
      · rw [← hrecord hrun]
        simp [State.record, hrun]
    · simp only [if_neg hempty]
      refine H.edited hR (by simp) (by simp) (fun _ => State.heatPoint_edited (.inl rfl) rfl rfl fun hrun => ?_) h
      rw [← hrecord hrun]
      simp [State.record, hrun]

theorem clearProgramRule (h : P s) : P (clearProgramRule s).1 := by
  rcases clearProgramRule_cases s with heq | ⟨-, hrun, heq⟩ <;> rw [heq]
  · exact h
  · refine H.congr (s := s) (by simp) (by simp) (State.heatPoint_edited ?_ rfl rfl (by simp [hrun])) h
    simpa using RunState.whenEmptied_cases s.run.state

theorem leaveConfigRule (h : P s) : P (leaveConfigRule s).1 := by
  refine inConfig_keeps (fun hconfig => H.congr (by simp [runReply]) ?_ ?_ h) h
  · simp only [runReply, RunState.SameGates, State.setRunState_run, State.restState_sameGates, hconfig]
    exact ⟨rfl, rfl⟩
  · rw [State.heatPoint_of_not_halts, State.heatPoint_of_not_halts]
    · simp [hconfig, RunState.halts]
    · simp [runReply]

theorem pauseRule (h : P s) : P (pauseRule s).1 := by
  unfold Machine.pauseRule
  split_ifs
  · exact H.addCauses _ h
  · exact h

theorem confirmRule (step : Byte) (h : P s) : P (confirmRule step s).1 := by
  unfold Machine.confirmRule
  split_ifs
  · exact H.latch _ h
  · exact h
  · exact h

theorem startRule (hR : R s) (h : P s) : P (startRule s).1 := by
  unfold Machine.startRule
  split_ifs with hstate
  · exact h
  · exact H.startRun hR hstate h
  · exact h

theorem resumeRule (hR : R s) (h : P s) : P (resumeRule s).1 := by
  unfold Machine.resumeRule
  split_ifs with hstate
  · exact h
  · exact H.resumeRun hR hstate h
  · exact h

theorem skipRule (h : P s) : P (skipRule s).1 := by
  unfold Machine.skipRule
  split_ifs
  · exact H.skipStep h
  · exact h

theorem abortRule (h : P s) : P (abortRule s).1 := by
  unfold Machine.abortRule
  split
  iterate 4 exact H.abortRun (H.loose h)
  all_goals exact h

theorem manualSetRule (level heatPresent : Byte) (target cap : Half) (h : P s) :
    P (manualSetRule level heatPresent target cap s).1 := by
  unfold Machine.manualSetRule
  extract_lets l t c heat clamped
  split_ifs
  · exact h
  · exact h
  · exact H.endManual (H.loose h)
  · exact h
  · exact h
  · exact H.setManual _ _ (H.loose h)
  · exact h

theorem manualStopRule (h : P s) : P (manualStopRule s).1 := by
  unfold Machine.manualStopRule
  split_ifs
  · exact H.endManual (H.loose h)
  · exact h

theorem enterConfigRule (h : P s) : P (enterConfigRule s).1 := by
  have hidle : P (s.setRunState .config).handIdle := H.handIdle (H.rerun (by simp) (H.loose h))
  unfold Machine.enterConfigRule
  split
  iterate 3 exact hidle
  all_goals exact h

theorem loadHeaterDataRule (rh rating kmains : Half) (hconfig : s.run.state = .config) (h : P s) :
    P (loadHeaterDataRule rh rating kmains s).1 :=
  H.quiet (by simp; rfl) (by simp) (H.rated (clampNat 500 2000 rating.toNat) hconfig h)

theorem leaseArmRule (period locked : Byte) (h : P s) : P (leaseArmRule period locked s).1 := by
  unfold Machine.leaseArmRule
  dsimp only
  split_ifs
  · exact h
  · exact h
  · exact H.armLease _ _ h

theorem leaseDisarmRule (h : P s) : P (leaseDisarmRule s).1 := by
  unfold Machine.leaseDisarmRule
  dsimp only
  split_ifs
  · exact h
  · exact h
  · exact H.disarmLease h

theorem safetyClearRule (h : P s) : P (safetyClearRule s).1 := by
  unfold Machine.safetyClearRule
  split_ifs
  · exact h
  · refine H.follow (s := s) (by simp) (by simp) (State.heatPoint_eq (by simp)) ?_ ?_ (fun heff => ⟨.inl heff, rfl⟩) h
    · simp only [State.heatEnabled, State.leaseLive, State.mainsLost]; grind
    · simp only [State.motionEnabled, State.leaseLive, State.mainsLost]; grind

theorem safetyLimitRule (watts : Half) (h : P s) : P (safetyLimitRule watts s).1 := by
  unfold Machine.safetyLimitRule
  dsimp only
  split_ifs with hcut
  · exact H.cut (by simp) (by simp) (State.heatPoint_eq (by simp)) (by simp) (by simp) h
  · exact H.limited _ (Nat.le_of_not_lt hcut) h

/-- The rule of every command keeps the promise. -/
theorem rule {i : Instr} {rule : State → Executed} (hrule : ruleOf i = some rule) (hR : R s) (h : P s) :
    P (rule s).1 := by
  cases i <;> simp only [ruleOf, Option.some.injEq, reduceCtorEq] at hrule <;> subst hrule
  case pause => exact H.pauseRule h
  case confirm => exact H.confirmRule _ h
  case start => exact H.startRule hR h
  case resume => exact H.resumeRule hR h
  case skip => exact H.skipRule h
  case abort => exact H.abortRule h
  case putStep => exact H.putStepRule _ _ hR h
  case deleteStep => exact H.deleteStepRule _ hR h
  case clearProgram => exact H.clearProgramRule h
  case manualSet => exact H.manualSetRule _ _ _ _ h
  case manualStop => exact H.manualStopRule h
  case enterConfig => exact H.enterConfigRule h
  case leaveConfig => exact H.leaveConfigRule h
  case warmReset => exact H.warm h
  case leaseArm => exact H.clearsKey (H.leaseArmRule _ _ h)
  case leaseDisarm => exact H.clearsKey (H.leaseDisarmRule h)
  case leaseKeyB => exact H.clearsKey (H.quiet (by simp) (by simp) h)
  case safetyStop => exact H.clearsKey (H.setStopLatch h)
  case safetyClear => exact H.clearsKey (H.safetyClearRule h)
  case safetyLimit => exact H.clearsKey (H.safetyLimitRule _ h)
  case loadHeaterData => exact inConfig_keeps (H.loadHeaterDataRule _ _ _ · h) h
  case setAcceptance => exact inConfig_keeps (fun _ => H.quiet (by simp) (by simp) h) h
  case setService => exact inConfig_keeps (fun _ => H.quiet (by simp) (by simp) h) h
  case setBudget => exact inConfig_keeps (fun _ => H.quiet (by simp) (by simp) h) h
  case setLineFunction => exact inConfig_keeps (fun _ => H.quiet (by simp) (by simp) h) h
  case setLineFilter => exact inConfig_keeps (fun _ => H.quiet (by simp) (by simp) h) h
  case setScalePolicy => exact inConfig_keeps (fun _ => H.quiet (by simp) (by simp) h) h
  case loadScaleCalibration => exact inConfig_keeps (fun _ => H.quiet (by simp) (by simp) h) h
  case loadThermistorTableFirst => exact inConfig_keeps (fun _ => H.quiet (by simp) (by simp) h) h
  case loadThermistorTableSecond => exact inConfig_keeps (fun _ => H.quiet (by simp) (by simp) h) h
  all_goals exact H.quiet (by simp) (by simp) h

/-! ### Every event -/

theorem after (dt : Nat) (h : P s) : P (s.after dt) := H.quiet (s := s) (by simp) (by simp) h

theorem reach (moment : Nat) (h : P s) : P (s.reach moment) := H.quiet (s := s) (by simp) (by simp) h

theorem arbitrate (h : P s) : P s.arbitrate := H.quiet (s := s) (by simp) (by simp) h

theorem trigger (h : P s) : P s.trigger := H.quiet (s := s) (by simp) (by simp) h

/-- The blade follows a change of its own timers, its pattern, its pulses or its direction. -/
theorem followBlade (hparts : t.SameHeater s ∧ t.thermal.base = s.thermal.base ∧
      t.thermal.element = s.thermal.element ∧ t.thermal.hot = s.thermal.hot ∧ t.thermal.mains = s.thermal.mains ∧
      t.safety = s.safety)
    (hpoint : t.SamePoint s)
    (heff : 0 < t.blade.effective → (0 < s.blade.effective ∨ s.blade.rising = true) ∧
      t.blade.inverter = s.blade.inverter)
    (h : P s) : P t.updateBlade := by
  obtain ⟨hheater, hbase, helement, hhot, hmains, hsafety⟩ := hparts
  have hstate := hpoint.1
  refine H.follow hheater (by simp [hstate]) (State.heatPoint_eq hpoint) ?_ ?_ heff h
  · simp [State.heatEnabled, State.leaseLive, State.mainsLost, *]
  · simp [State.motionEnabled, State.leaseLive, State.mainsLost, *]

theorem execRampStep (ht : execRampStep s = .next t) (h : P s) : P t := by
  obtain rfl := Host.Outcome.next.inj ht
  split
  next r hr =>
    cases hup : r.up
    · exact H.followBlade (s := s) (by simp [State.moveLevel]) (by simp [State.moveLevel])
        (by simp [State.moveLevel]; omega) h
    · exact H.followBlade (s := s) (by simp [State.moveLevel]) (by simp [State.moveLevel])
        (by simp [State.moveLevel, Blade.rising, hr, hup]) h
  next => exact h

theorem execIntervalPhaseEnd (ht : execIntervalPhaseEnd s = .next t) (h : P s) : P t := by
  obtain rfl := Host.Outcome.next.inj ht
  split
  · exact H.followBlade (s := s) (by simp) (by simp) (fun heff => ⟨.inl heff, rfl⟩) h
  · exact h

theorem execKneadHalfEnd (ht : execKneadHalfEnd s = .next t) (h : P s) : P t := by
  obtain rfl := Host.Outcome.next.inj ht
  split
  · exact H.followBlade (s := s) (by simp) (by simp) (by simp; exact .inl) h
  · exact h

theorem execInverterRestWaitEnd (ht : execInverterRestWaitEnd s = .next t) (h : P s) : P t := by
  obtain rfl := Host.Outcome.next.inj ht
  split
  · split
    · exact H.rest (H.reach _ h)
    · exact H.rest h
  · exact h

theorem execLidLockSettleEnd (ht : execLidLockSettleEnd s = .next t) (h : P s) : P t := by
  obtain rfl := Host.Outcome.next.inj ht
  split
  · exact H.followBlade (s := s) (by simp) (by simp) (fun heff => ⟨.inl heff, rfl⟩) h
  · exact h

theorem countPulse (h : P s) : P s.countPulse.updateBlade :=
  H.followBlade (s := s) (by simp [State.countPulse]) (by simp [State.countPulse]) (fun heff => ⟨.inl heff, rfl⟩) h

theorem execIndexPulse {dt : Nat} (ht : execIndexPulse dt s = .next t) (h : P s) : P t := by
  obtain rfl := Host.Outcome.next.inj ht
  have hpulse := H.countPulse (H.after dt h)
  have hkind : P (s.after dt).countPulse.updateBlade.updateKind := H.quiet (by simp) (by simp) hpulse
  dsimp only
  split_ifs
  · exact H.trigger hkind
  · exact hkind
  · exact H.after dt h

theorem execSpeedCheck (ht : execSpeedCheck s = .next t) (h : P s) : P t := by
  obtain rfl := Host.Outcome.next.inj ht
  split
  · split_ifs
    · exact H.followBlade (s := s) (by simp) (by simp) (fun heff => ⟨.inl heff, rfl⟩) h
    · exact H.quiet (s := s) (by simp) (by simp) h
  · exact H.quiet (s := s) (by simp) (by simp) h

theorem execSpeedTimeout (ht : execSpeedTimeout s = .next t) (h : P s) : P t := by
  obtain rfl := Host.Outcome.next.inj ht
  split
  · exact H.followBlade (s := s) (by simp) (by simp) (fun heff => ⟨.inl heff, rfl⟩) h
  · exact h

theorem execStall (ht : execStall s = .next t) (h : P s) : P t := by
  obtain rfl := Host.Outcome.next.inj ht
  split
  next moment _ =>
    exact H.rest (H.answerStall (H.send _ _ _ (H.release (s := s.reach moment) .off (by simp) (H.reach moment h))))
  · exact h

theorem execConversionComplete {channel : Channel} {code : BitVec 12}
    (ht : execConversionComplete channel code s = .next t) (h : P s) : P t := by
  obtain rfl := Host.Outcome.next.inj ht
  split
  · exact H.arbitrate (H.deliver _ _ _ (H.quiet (s := s) (by simp) (by simp) h))
  · exact h

theorem execScaleBurstComplete {codes : List (Tri × Tri)}
    (ht : execScaleBurstComplete codes s = .next t) (h : P s) : P t := by
  obtain rfl := Host.Outcome.next.inj ht
  split
  · refine H.arbitrate ?_
    split_ifs
    · exact H.quiet (s := s) (by simp [State.saturatedSample]) (by simp [State.saturatedSample]) h
    · exact H.validSample _ (H.quiet (s := s) (by simp) (by simp) h)
  · exact h

theorem followBudget (b : Budget) (hremainder : b.remainder = s.budget.remainder) (h : P s) :
    P (State.updateBlade { s with budget := b }) :=
  H.followBlade (s := s) (by simp [hremainder]) (by simp) (fun heff => ⟨.inl heff, rfl⟩) h

theorem derateWindow (h : P s) : P s.derate := by
  have hceiling (b : Budget) (hb : b.remainder = s.budget.remainder) :
      P (State.updateBlade (State.send { s with budget := b } .budgetDerate (State.runIndex { s with budget := b })
        none)) :=
    H.followBlade (s := s) (by simp [hb]) (by simp) (fun heff => ⟨.inl heff, rfl⟩) h
  unfold State.derate
  dsimp only
  split_ifs
  · exact hceiling _ rfl
  · exact H.quiet (s := s) (by simp) (by simp) h
  · exact H.quiet (s := s) (by simp) (by simp) h
  · exact H.quiet (s := s) (by simp) (by simp) h

theorem recover (h : P s) : P s.recover := by
  unfold State.recover
  split
  · split_ifs
    · exact H.followBudget _ rfl h
    · exact H.followBudget _ rfl h
    · exact H.quiet (s := s) (by simp) (by simp) h
  · exact h

/-- A promise that reads neither the grant nor its bounds survives the next cycle of the window. -/
theorem beginCycle (hblind : ∀ {s t : State}, t.SameButGrant s → t.SamePoint s → P s → P t) (h : P s) :
    P s.beginCycle := by
  have hend : P s.endWindow := H.recover (H.derateWindow (hblind (s := s) (by simp) (by simp) h))
  have hgrant {s : State} (h : P s) : P s.grantWindow := hblind (s := s) (by simp [State.grantWindow]) (by simp [State.grantWindow]) h
  have hstart {s : State} (h : P s) : P s.startWindow :=
    hgrant (H.testTemp (hblind (s := s) (by simp) (by simp) h))
  unfold State.beginCycle
  split
  · split_ifs
    · exact hblind (s := s) (by simp) (by simp) h
    · exact hstart hend
  · exact hstart h

theorem execMainsZeroCrossing {dt : Nat} (hcycle : ∀ {s : State}, P s → P s.beginCycle)
    (ht : execMainsZeroCrossing dt s = .next t) (h : P s) : P t := by
  obtain rfl := Host.Outcome.next.inj ht
  split
  · dsimp only
    split_ifs
    · exact hcycle (H.quiet (s := s) (by simp) (by simp) h)
    · exact H.quiet (s := s) (by simp) (by simp) h
  · exact H.quiet (s := s) (by simp) (by simp) h

theorem abandonWindow (h : P s) : P s.abandonWindow :=
  H.updateVent (H.cut (s := s) (by simp) (by simp) (State.heatPoint_eq (by simp)) (by simp) (by simp) h)

theorem execMainsLossTimeout (ht : execMainsLossTimeout s = .next t) (h : P s) : P t := by
  obtain rfl := Host.Outcome.next.inj ht
  split
  · exact H.setMains _ (H.abandonWindow (H.quiet (s := s) (by simp) (by simp) h))
  · exact h

theorem execLeaseTick (ht : execLeaseTick s = .next t) (h : P s) : P t := by
  obtain rfl := Host.Outcome.next.inj ht
  split
  · dsimp only
    split_ifs
    · exact H.quiet (s := s) (by simp) (by simp) h
    · exact H.lapse (H.reach _ h)
  · exact h

theorem execBadFrame {p : Port} {bytes : List Byte} {tooLong : Bool}
    (ht : execBadFrame p bytes tooLong s = .next t) (h : P s) : P t := by
  obtain rfl := Host.Outcome.next.inj ht
  split_ifs
  · split
    next s1 hs1 =>
      rcases State.takeFrame_cases hs1 with ⟨rest, -, rfl⟩ | ⟨-, -, -, rfl⟩
      · exact H.quiet (s := s) (by simp) (by simp) h
      · exact H.quiet (by simp) (by simp) h
    · exact h
  · exact h

theorem forceTare (h : P s) : P s.forceTare := by
  unfold State.forceTare
  dsimp only
  split_ifs
  · exact H.quiet (s := s) (by simp) (by simp) h
  · exact H.quiet (s := s) (by simp) (by simp) h

/-- Every event keeps the promise. -/
theorem event {i : Instr} (hcycle : ∀ {s : State}, P s → P s.beginCycle) (hi : ruleOf i = none)
    (ht : exec i s = .next t) (h : P s) : P t := by
  cases i <;> simp only [ruleOf, reduceCtorEq] at hi
  case badFrame => exact H.execBadFrame ht h
  case rampStep => exact H.execRampStep ht h
  case intervalPhaseEnd => exact H.execIntervalPhaseEnd ht h
  case kneadHalfEnd => exact H.execKneadHalfEnd ht h
  case inverterRestWaitEnd => exact H.execInverterRestWaitEnd ht h
  case lidLockSettleEnd => exact H.execLidLockSettleEnd ht h
  case indexPulse => exact H.execIndexPulse ht h
  case speedCheck => exact H.execSpeedCheck ht h
  case speedTimeout => exact H.execSpeedTimeout ht h
  case stall => exact H.execStall ht h
  case conversionComplete => exact H.execConversionComplete ht h
  case scaleBurstComplete => exact H.execScaleBurstComplete ht h
  case mainsZeroCrossing => exact H.execMainsZeroCrossing hcycle ht h
  case mainsLossTimeout => exact H.execMainsLossTimeout ht h
  case leaseTick => exact H.execLeaseTick ht h
  all_goals obtain rfl := Host.Outcome.next.inj ht
  case powerOnReset a n => exact H.quiet (s := State.powerOn a n) (by simp) (by simp) (H.powerOn a n)
  case lineFilterSample => exact H.sampleLine _ _ (H.sampleLine _ _ (H.sampleLine _ _ (H.quiet (s := s) (by simp) (by simp) h)))
  case stopNAsserted => exact H.setStopLatch (H.quiet (s := s) (by simp) (by simp) h)
  case stopNReleased => exact H.quiet (s := s) (by simp) (by simp) h
  case thermistorTimer => exact H.quiet (s := s) (by simp) (by simp) h
  case motorITimer => exact H.quiet (s := s) (by simp) (by simp) h
  case activeTimeTick =>
    split
    · exact H.editResult _ (H.quiet (s := s) (by simp) (by simp) h)
    · exact H.after _ h
  case timeDone =>
    split
    · exact H.latch _ h
    · exact h
  case overdue =>
    split
    · exact H.addCauses _ (H.quiet (s := s) (by simp) (by simp) h)
    · exact h
  case tareForced =>
    split
    · exact H.forceTare (H.reach _ h)
    · exact h
  case bladeStopped =>
    split
    · exact H.quiet (s := s) (by simp) (by simp) h
    · exact h
  case leaseLapse =>
    split
    · exact H.lapse (H.reach _ h)
    · exact h
  case lockedLeaseLapse =>
    split
    · exact H.lapse (H.reach _ h)
    · exact h
  case freeClockTick =>
    have htick (due : Nat) : P { s.reach s.weigh.freeDue with
        weigh := { (s.reach s.weigh.freeDue).weigh with freeDue := due } } :=
      H.quiet (s := s) (by simp) (by simp) h
    split
    · exact H.trigger (htick _)
    · split
      · exact htick _
      · exact H.trigger (htick _)
    · exact htick _
  case scaleTrigInEdge dt line =>
    have hpin : P { s.after dt with aux := (s.after dt).aux.setPin line true } :=
      H.quiet (s := s) (by simp [Aux.setPin]) (by simp) h
    split
    · exact H.trigger hpin
    · exact hpin
  case readAddressPhase dt address pins =>
    split
    · exact H.quiet (s := s) (by simp [Aux.setPins]) (by simp) h
    · exact H.quiet (s := s) (by simp) (by simp) h
  case writeAddressPhase =>
    split
    · exact H.after _ h
    · split
      · split
        · exact H.quiet (s := s) (by simp) (by simp) h
        · exact H.quiet (s := s) (by simp) (by simp) h
      · exact H.quiet (s := s) (by simp) (by simp) h
  case runClockTick =>
    split
    · exact H.quiet (s := s) (by simp) (by simp) h
    · exact H.after _ h
  all_goals split
  all_goals exact H.quiet (s := s) (by simp) (by simp) h

theorem exec {i : Instr} (hcycle : ∀ {s : State}, P s → P s.beginCycle) (hR : R s) (h : P s) (ht : exec i s = .next t) : P t := by
  cases hrule : ruleOf i with
  | none => exact H.event hcycle hrule ht h
  | some rule =>
    obtain ⟨b, -, hcases⟩ := exec_command_cases hrule ht
    have hbus : P { s with bus := b } := H.quiet (s := s) (by simp) (by simp) h
    rcases hcases with rfl | ⟨p, code, r, rfl⟩ | ⟨p, code, r, rfl⟩
    · exact h
    · exact H.quiet (s := s) (by simp) (by simp) h
    · exact H.quiet (by simp) (by simp) (H.rule hrule (H.bus b hR) hbus)

/-- Every step keeps the promise. -/
theorem step (hcycle : ∀ {s : State}, P s → P s.beginCycle)
    (hpending : ∀ {s : State} l, R s → R { s with pending := l }) (hR : R s) (h : P s) (ht : step s = .next t) : P t := by
  rcases step_cases ht with rfl | ⟨i, rest, hexec⟩
  · exact h
  · exact H.exec hcycle (hpending rest hR) (H.quiet (s := s) (by simp) (by simp) h) hexec

end Handed

end Sys2Proof.Machine
end

section
/-! SUPPORT. The guards of the motor and of the blade, over every step (R121, R123, R127). -/

namespace Sys2Proof.Machine

theorem State.motorGuarded_iff {s : State} :
    s.MotorGuarded ↔ (0 < s.blade.commanded →
      s.safety.stopLatch = false ∧ s.safety.motionPermit.active = true ∧ s.safety.lidClosed.active = true ∧
      s.safety.lease = .live ∧ s.run.state.drives = true) := by
  cases h : s.run.state <;> simp [State.MotorGuarded, RunState.drives, h]

/-- A commanded level that follows the state needs what R121 asks for. -/
theorem State.motorGuarded_updateBlade (s : State) : s.updateBlade.MotorGuarded := by
  rw [State.motorGuarded_iff]
  intro hpos
  rw [State.updateBlade_commanded, State.commandedLevel_eq] at hpos
  have hgate : (s.motionEnabled && s.run.state.drives) = true := by
    by_contra hgate
    simp [hgate] at hpos
  simp only [State.motionEnabled, State.leaseLive, Bool.and_eq_true, Bool.not_eq_true', decide_eq_true_eq] at hgate
  simp [hgate]

theorem State.motorGuarded_congr {s t : State} (h : t.SameParts s)
    (hstate : t.run.state.drives = s.run.state.drives) (hs : s.MotorGuarded) : t.MotorGuarded := by
  rw [State.motorGuarded_iff] at hs ⊢
  simp_all

theorem State.motorGuarded_blind {s t : State} (h : t.SameButGrant s)
    (hstate : t.run.state.drives = s.run.state.drives) (hs : s.MotorGuarded) : t.MotorGuarded := by
  rw [State.motorGuarded_iff] at hs ⊢
  simp_all

theorem State.motorGuarded_endRest {s : State} (h : s.MotorGuarded) : s.endRest.MotorGuarded := by
  unfold State.endRest
  split_ifs
  · exact State.motorGuarded_updateBlade _
  · exact h

theorem State.motorGuarded_brake {s : State} (h : s.MotorGuarded) : s.brake.MotorGuarded :=
  State.motorGuarded_endRest (s := State.updateStall _) h

theorem State.motorGuarded_handHeat {s : State} (h : s.MotorGuarded) : s.handHeat.MotorGuarded := by
  simpa [State.MotorGuarded] using h

theorem State.motorGuarded_handStir (s : State) (p : StirPoint) : (s.handStir p).MotorGuarded :=
  State.motorGuarded_updateBlade _

theorem State.motorGuarded_warmReset (s : State) : s.warmReset.MotorGuarded := by
  unfold State.warmReset
  exact State.motorGuarded_brake (State.motorGuarded_handStir _ _)

theorem motorHanded : Handed (fun _ => True) State.MotorGuarded (fun _ => True) where
  congr h hgates _ hs := State.motorGuarded_congr h hgates.2 hs
  edited _ h hgates _ hs := State.motorGuarded_congr h hgates.2 hs
  unreached {s t} _ _ hdrives h _ hs := by
    rw [State.motorGuarded_iff] at hs ⊢
    simp_all
  bus _ h := h
  loose _ := trivial
  rerun _ h := h
  derate h := h
  handStirHeat p _ := State.motorGuarded_handHeat (State.motorGuarded_handStir _ p)
  handHeatStir p _ := State.motorGuarded_handStir _ p
  follow _ _ _ _ _ _ _ := State.motorGuarded_updateBlade _
  gates _ _ _ _ _ := State.motorGuarded_updateBlade _
  cut h hgates _ _ _ hs := State.motorGuarded_blind h hgates.2 hs
  release x _ hs := hs
  rest := State.motorGuarded_endRest
  rated r _ hs := hs
  limited w _ hs := hs
  warm _ := State.motorGuarded_warmReset _
  powerOn a n := by simp [State.MotorGuarded, State.powerOn, Blade.reset]

/-! ## The blade -/

/-- The timers after an update rise only toward a target above the effective level, with the inverter DRIVING. -/
theorem State.rising_updateBlade {s : State} (h : s.updateBlade.blade.rising = true) :
    s.blade.inverter = .driving ∧ 0 < s.commandedLevel := by
  have hrising : ((s.updateCommanded.updateLock.rampNow).1.any Ramp.up) = true := h
  unfold State.rampNow at hrising
  split_ifs at hrising with hstill hup hsettle
  · simp at hrising
  · simp at hrising
  · have htarget : 0 < s.updateCommanded.updateLock.targetLevel := Nat.zero_lt_of_lt hup
    have hlevel : s.updateCommanded.updateLock.targetLevel ≤ s.commandedLevel := by
      unfold State.targetLevel
      split_ifs <;> simp
    refine ⟨by simpa using (not_or.mp hstill).1, by omega⟩
  · unfold rampToward at hrising
    split at hrising
    · split_ifs at hrising with hdown <;> simp_all
    · simp at hrising

theorem State.motionEnabled_of_commandedLevel_pos {s : State} (h : 0 < s.commandedLevel) : s.motionEnabled = true := by
  by_contra hmotion
  simp [State.commandedLevel_of_not_enabled (Bool.eq_false_iff.mpr hmotion)] at h

@[simp] theorem State.updateBlade_motionEnabled (s : State) : s.updateBlade.motionEnabled = s.motionEnabled := by
  simp [State.motionEnabled, State.leaseLive, State.mainsLost]

theorem State.bladeGuarded_updateBlade {s : State}
    (h : 0 < s.blade.effective → s.blade.inverter = .driving ∧ s.motionEnabled = true) : s.updateBlade.BladeGuarded := by
  rintro (heff | hrising)
  · simpa using h (by simpa using heff)
  · obtain ⟨hdriving, hlevel⟩ := State.rising_updateBlade hrising
    simpa using ⟨hdriving, State.motionEnabled_of_commandedLevel_pos hlevel⟩

theorem State.bladeGuarded_congr {s t : State} (h : t.SameParts s) (hs : s.BladeGuarded) : t.BladeGuarded := by
  have hmotion := State.motionEnabled_congr h
  simp_all [State.BladeGuarded, Blade.rising]

theorem State.bladeGuarded_blind {s t : State} (h : t.SameButGrant s) (hs : s.BladeGuarded) : t.BladeGuarded := by
  have hmotion : t.motionEnabled = s.motionEnabled := by
    simp_all [State.motionEnabled, State.leaseLive, State.mainsLost]
  simp_all [State.BladeGuarded, Blade.rising]

theorem State.BladeGuarded.driven {s : State} (hs : s.BladeGuarded) (heff : 0 < s.blade.effective) :
    s.blade.inverter = .driving ∧ s.motionEnabled = true := hs (.inl heff)

theorem State.bladeGuarded_endRest {s : State} (h : s.BladeGuarded) : s.endRest.BladeGuarded := by
  unfold State.endRest
  split_ifs
  · exact State.bladeGuarded_updateBlade fun heff => ⟨rfl, (h.driven heff).2⟩
  · exact h

theorem State.bladeGuarded_brake (s : State) : s.brake.BladeGuarded :=
  State.bladeGuarded_endRest (by simp [State.BladeGuarded, Blade.rising])

theorem State.bladeGuarded_handHeat {s : State} (h : s.BladeGuarded) : s.handHeat.BladeGuarded := by
  simpa [State.BladeGuarded, State.motionEnabled, State.leaseLive, State.mainsLost] using h

theorem State.bladeGuarded_handStir {s : State} (p : StirPoint) (h : s.BladeGuarded) : (s.handStir p).BladeGuarded :=
  State.bladeGuarded_updateBlade (by
    simpa [State.motionEnabled, State.leaseLive, State.mainsLost] using h.driven)

theorem State.bladeGuarded_gates {s t : State} (hblade : t.blade = s.blade) (h : s.BladeGuarded) :
    (s.gates t).BladeGuarded := by
  have hcut (t : State) (hblade : t.blade = s.blade) : State.BladeGuarded (State.updateBlade
      (if s.motionEnabled && !t.motionEnabled then t.brake else t)) := by
    refine State.bladeGuarded_updateBlade fun heff => ?_
    split_ifs at heff ⊢
    · simp at heff
    · have hdriven := h.driven (by rwa [hblade] at heff)
      simp_all
  unfold State.gates
  refine hcut _ ?_
  split_ifs <;> simp [hblade]

theorem bladeHanded : Handed (fun _ => True) State.BladeGuarded State.BladeGuarded where
  congr h _ _ hs := State.bladeGuarded_congr h hs
  edited _ h _ _ hs := State.bladeGuarded_congr h hs
  unreached _ _ _ h _ hs := State.bladeGuarded_congr h hs
  bus _ h := h
  loose h := h
  rerun h hs := State.bladeGuarded_congr h hs
  derate h := State.bladeGuarded_updateBlade (State.BladeGuarded.driven h)
  handStirHeat p h := State.bladeGuarded_handHeat (State.bladeGuarded_handStir p h)
  handHeatStir p h := State.bladeGuarded_handStir p (State.bladeGuarded_handHeat h)
  follow {s t} _ _ _ _ hmotion hblade h := by
    refine State.bladeGuarded_updateBlade fun heff => ?_
    obtain ⟨hdriven, hinverter⟩ := hblade heff
    rw [hinverter]
    exact ⟨(h hdriven).1, hmotion (h hdriven).2⟩
  gates _ _ _ hblade h := State.bladeGuarded_gates hblade h
  cut h _ _ _ _ hs := State.bladeGuarded_blind h hs
  release x _ _ := by simp [State.BladeGuarded, Blade.rising]
  rest := State.bladeGuarded_endRest
  rated r _ hs := hs
  limited w _ hs := hs
  warm {s} _ := by unfold State.warmReset; exact State.bladeGuarded_brake _
  powerOn a n := by simp [State.BladeGuarded, State.powerOn, Blade.reset, Blade.rising]

/-- Settles O8: both guards survive whatever a step does to the motor. -/
theorem stepKeepsMotorGuarded : Obligations.StepKeepsMotorGuarded := by
  refine fun s t ht => ⟨fun h => ?_, fun h => ?_⟩
  · exact motorHanded.step (motorHanded.beginCycle fun hparts hpoint => State.motorGuarded_blind hparts (by rw [hpoint.1]))
      (fun _ h => h) trivial h ht
  · exact bladeHanded.step (bladeHanded.beginCycle fun hparts _ => State.bladeGuarded_blind hparts)
      (fun _ h => h) trivial h ht

end Sys2Proof.Machine
end

section
/-! SUPPORT. The outputs follow the state, over every step (R106, R121, R123, R128, R131, R193). -/

namespace Sys2Proof.Machine

/-- What the blade and its lock follow: commanded level, lid lock, stall timer, and the timers of ramp and settle. -/
abbrev State.BladeFollows (s : State) : Prop :=
  s.blade.commanded = s.commandedLevel ∧ s.aux.lockEngaged = s.lockCondition ∧
  s.blade.stallTimer.isSome = s.blade.stallCondition ∧
  ((s.blade.ramp.isSome = true ∨ s.blade.settle.isSome = true) →
    s.blade.inverter = .driving ∧ s.targetLevel ≠ s.blade.effective)

theorem State.outputsFollow_iff {s : State} :
    s.OutputsFollow ↔ s.thermal.setPoint = s.heatPoint ∧ s.BladeFollows := Iff.rfl

@[simp] theorem State.updateBlade_commandedLevel (s : State) : s.updateBlade.commandedLevel = s.commandedLevel := by
  simp [State.commandedLevel, Blade.asked]

theorem State.updateLock_follows (s : State) : s.updateLock.aux.lockEngaged = s.lockCondition := by
  unfold State.updateLock
  split_ifs <;> simp_all

theorem Thermal.tb_congr {s t : Thermal} (hbase : t.base = s.base) (hhistory : t.baseHistory = s.baseHistory) :
    t.tb = s.tb := by
  unfold Thermal.tb
  rw [hbase, hhistory]

theorem Thermal.hotBase_congr {s t : Thermal} (hbase : t.base = s.base) (hhistory : t.baseHistory = s.baseHistory) :
    t.hotBase = s.hotBase := by
  rw [Thermal.hotBase, Thermal.hotBase, Thermal.tb_congr hbase hhistory]

theorem State.lockCondition_congr {s t : State} (hblade : t.blade.commanded = s.blade.commanded)
    (hactual : t.blade.actual = s.blade.actual) (hbase : t.thermal.base = s.thermal.base)
    (hhistory : t.thermal.baseHistory = s.thermal.baseHistory) : t.lockCondition = s.lockCondition := by
  rw [State.lockCondition, State.lockCondition, hblade, hactual, Thermal.hotBase_congr hbase hhistory]

theorem State.targetLevel_congr {s t : State} (hcommanded : t.blade.commanded = s.blade.commanded)
    (hwant : t.blade.wantDirection = s.blade.wantDirection) (hdirection : t.blade.direction = s.blade.direction)
    (hbase : t.thermal.base = s.thermal.base) (hhistory : t.thermal.baseHistory = s.thermal.baseHistory)
    (hceiling : t.budget.ceiling = s.budget.ceiling) : t.targetLevel = s.targetLevel := by
  rw [State.targetLevel, State.targetLevel, Blade.reversing, Blade.reversing, hcommanded, hwant, hdirection, hceiling,
    Thermal.hotBase_congr hbase hhistory]

/-- A ramp or a settle runs only with the inverter DRIVING toward a target not reached (R123, R128). -/
theorem State.rampNow_runs {s : State} (h : s.rampNow.1.isSome = true ∨ s.rampNow.2.isSome = true) :
    s.blade.inverter = .driving ∧ s.targetLevel ≠ s.blade.effective := by
  unfold State.rampNow at h
  split_ifs at h with hstill
  · simp at h
  all_goals simpa [not_or] using hstill

theorem State.updateBlade_follows (s : State) : s.updateBlade.BladeFollows := by
  have hlock := State.updateLock_follows s.updateCommanded
  refine ⟨by simp, ?_, ?_, ?_⟩
  · calc s.updateBlade.aux.lockEngaged = s.updateCommanded.updateLock.aux.lockEngaged := rfl
      _ = s.updateCommanded.lockCondition := hlock
      _ = s.updateBlade.lockCondition := (State.lockCondition_congr (by simp) (by simp) (by simp) (by simp)).symm
  · simp only [State.updateBlade, State.updateStall]
    split_ifs with hstall
    · simpa [Blade.stallCondition] using hstall.symm
    · simpa [Blade.stallCondition] using hstall
  · intro hruns
    have h := State.rampNow_runs (s := s.updateCommanded.updateLock) hruns
    have htarget : s.updateBlade.targetLevel = s.updateCommanded.updateLock.targetLevel :=
      State.targetLevel_congr (by simp) (by simp) (by simp) (by simp) (by simp) (by simp)
    rw [htarget]
    simpa using h

theorem State.bladeFollows_congr {s t : State} (h : t.SameParts s)
    (hstate : t.run.state.drives = s.run.state.drives) (hs : s.BladeFollows) : t.BladeFollows := by
  have hlevel := State.commandedLevel_congr h hstate
  have hlock : t.lockCondition = s.lockCondition := State.lockCondition_congr (by simp_all) (by simp_all) (by simp_all) (by simp_all)
  have htarget : t.targetLevel = s.targetLevel := State.targetLevel_congr (by simp_all) (by simp_all) (by simp_all) (by simp_all) (by simp_all) (by simp_all)
  simp_all [State.BladeFollows, Blade.stallCondition]

theorem State.bladeFollows_blind {s t : State} (h : t.SameButGrant s)
    (hstate : t.run.state.drives = s.run.state.drives) (hs : s.BladeFollows) : t.BladeFollows :=
  State.bladeFollows_congr (t := { t with
    thermal := { t.thermal with grant := s.thermal.grant, gate := s.thermal.gate, rating := s.thermal.rating }
    safety := { t.safety with limit := s.safety.limit }
    budget := { t.budget with remainder := s.budget.remainder } }) h hstate hs

theorem State.outputsFollow_congr {s t : State} (h : t.SameParts s)
    (hstate : t.run.state.drives = s.run.state.drives) (hpoint : t.heatPoint = s.heatPoint) (hs : s.OutputsFollow) :
    t.OutputsFollow := by
  rw [State.outputsFollow_iff] at hs ⊢
  exact ⟨by rw [hpoint, h.1, hs.1], State.bladeFollows_congr h hstate hs.2⟩

theorem State.outputsFollow_blind {s t : State} (h : t.SameButGrant s)
    (hstate : t.run.state.drives = s.run.state.drives) (hpoint : t.heatPoint = s.heatPoint) (hs : s.OutputsFollow) :
    t.OutputsFollow := by
  rw [State.outputsFollow_iff] at hs ⊢
  exact ⟨by rw [hpoint, ← hs.1]; exact h.1, State.bladeFollows_blind h hstate hs.2⟩

/-- With the heat set point in place, the blade's update brings the rest to the state. -/
theorem State.outputsFollow_updateBlade {s : State} (h : s.thermal.setPoint = s.heatPoint) :
    s.updateBlade.OutputsFollow := by
  refine ⟨?_, State.updateBlade_follows s⟩
  simpa [h] using (State.heatPoint_eq (by simp)).symm

theorem State.outputsFollow_handHeat {s : State} (h : s.BladeFollows) : s.handHeat.OutputsFollow := by
  rw [State.outputsFollow_iff, State.handHeat_setPoint]
  refine ⟨(State.heatPoint_eq (by simp)).symm, ?_⟩
  exact State.bladeFollows_congr (s := { s with thermal := { s.thermal with
    setPoint := s.handHeat.thermal.setPoint, grant := s.handHeat.thermal.grant, gate := s.handHeat.thermal.gate } })
    (by simp) (by simp) h

theorem State.outputsFollow_handStir {s : State} (p : StirPoint) (h : s.thermal.setPoint = s.heatPoint) :
    (s.handStir p).OutputsFollow :=
  State.outputsFollow_updateBlade (by simpa [h] using (State.heatPoint_eq (by simp)).symm)

theorem State.outputsFollow_endRest {s : State} (h : s.OutputsFollow) : s.endRest.OutputsFollow := by
  unfold State.endRest
  split_ifs
  · exact State.outputsFollow_updateBlade h.1
  · exact h

/-- The inverter ceases to drive: no level, no ramp, no settle, and no stall timer (R127, R131). -/
theorem State.outputsFollow_released {s : State} {x : Inverter} (hx : x ≠ .driving) (h : s.OutputsFollow) :
    State.OutputsFollow { s with blade := { s.blade with
      effective := 0, ramp := none, settle := none, inverter := x, stallTimer := none } } := by
  obtain ⟨hpoint, hlevel, hlock, -, -⟩ := h
  exact ⟨hpoint, hlevel, hlock, by simp [Blade.stallCondition, hx], by simp⟩

theorem State.outputsFollow_brake {s : State} (h : s.OutputsFollow) : s.brake.OutputsFollow := by
  refine State.outputsFollow_endRest ?_
  have hx : (if s.mainsLost then Inverter.off else .braking) ≠ .driving := by split <;> simp
  simpa [State.updateStall, Blade.stallCondition, hx] using State.outputsFollow_released hx h

theorem State.outputsFollow_gates {s t : State} (h : t.thermal.setPoint = t.heatPoint) :
    (s.gates t).OutputsFollow := by
  have hbrake (t : State) (h : t.thermal.setPoint = t.heatPoint) : State.OutputsFollow (State.updateBlade
      (if s.motionEnabled && !t.motionEnabled then t.brake else t)) := by
    refine State.outputsFollow_updateBlade ?_
    split_ifs
    · simpa [h] using (State.heatPoint_eq (by simp)).symm
    · exact h
  unfold State.gates
  refine hbrake _ ?_
  split_ifs
  · simpa [h] using (State.heatPoint_eq (by simp)).symm
  · exact h

theorem State.outputsFollow_warmReset (s : State) : s.warmReset.OutputsFollow := by
  unfold State.warmReset
  refine State.outputsFollow_brake (State.outputsFollow_handStir _ ?_)
  rw [State.heatPoint_of_not_halts] <;> simp [Thermal.warm]

theorem outputsHanded : Handed State.RunSound State.OutputsFollow (fun _ => True) where
  congr h hgates hpoint hs := State.outputsFollow_congr h hgates.2 hpoint hs
  edited hR h hgates hpoint hs := State.outputsFollow_congr h hgates.2 (hpoint hR) hs
  unreached hR hnot _ _ _ _ := absurd hR hnot
  bus _ h := h
  loose _ := trivial
  rerun _ h := h
  derate h := h
  handStirHeat p _ := State.outputsFollow_handHeat (State.updateBlade_follows _)
  handHeatStir p _ := State.outputsFollow_handStir p (by simpa using (State.heatPoint_eq (by simp)).symm)
  follow {s t} hheater _ hpoint _ _ _ h := State.outputsFollow_updateBlade (by rw [hheater.1, hpoint, h.1])
  gates {s t} hheater _ hpoint _ h := State.outputsFollow_gates (by rw [hheater.1, hpoint, h.1])
  cut h hgates hpoint _ _ hs := State.outputsFollow_blind h hgates.2 hpoint hs
  release x hx h := State.outputsFollow_released hx h
  rest := State.outputsFollow_endRest
  rated r _ hs := hs
  limited w _ hs := hs
  warm _ := State.outputsFollow_warmReset _
  powerOn a n := by cases a <;> cases n <;> decide

/-- Settles O12: set points are handed over with every change of the run, and the blade's update brings the rest. -/
theorem stepKeepsOutputsFollowing : Obligations.StepKeepsOutputsFollowing := by
  intro s t ht hsound h
  exact outputsHanded.step (outputsHanded.beginCycle fun hparts hpoint =>
    State.outputsFollow_blind hparts (by rw [hpoint.1]) (State.heatPoint_eq hpoint)) (fun _ h => h) hsound h ht

end Sys2Proof.Machine
end

section
/-! SUPPORT. The heater's guard and the bound of its grant, over every step (R110, R111, R113, R115). -/

namespace Sys2Proof.Machine

/-- The heater is guarded but for the run state and the active cap: what holds until the next set point is handed over. -/
structure State.HeatLoose (s : State) : Prop where
  gate : s.thermal.gate = true → 0 < s.thermal.grant
  conditions : 0 < s.thermal.grant → s.heatConditions = true
  rating : s.thermal.grant ≤ s.thermal.rating
  limit : s.thermal.grant ≤ s.safety.limit
  remainder : s.thermal.grant ≤ s.budget.remainder

/-- The heater's whole promise: the loose part, with the run state and the active cap. -/
structure State.HeatPromise (s : State) : Prop extends s.HeatLoose where
  halts : 0 < s.thermal.grant → s.run.state.halts = true
  cap : s.thermal.grant ≤ (s.thermal.setPoint.map HeatPoint.cap).getD 0

theorem State.heatPromise_iff {s : State} : s.HeatPromise ↔ s.HeaterGuarded ∧ s.GrantBounded := by
  constructor
  · rintro ⟨⟨hgate, hconditions, hrating, hlimit, hremainder⟩, hhalts, hcap⟩
    exact ⟨⟨hgate, fun hpos => by simp [State.heatEnabled_eq, hconditions hpos, hhalts hpos]⟩,
      hcap, hrating, hlimit, hremainder⟩
  · rintro ⟨⟨hgate, henabled⟩, hcap, hrating, hlimit, hremainder⟩
    have hboth (hpos : 0 < s.thermal.grant) : s.heatConditions = true ∧ s.run.state.halts = true := by
      simpa [State.heatEnabled_eq] using henabled hpos
    exact ⟨⟨hgate, fun hpos => (hboth hpos).1, hrating, hlimit, hremainder⟩, fun hpos => (hboth hpos).2, hcap⟩

/-- Without a grant and without firing nothing is promised. -/
theorem State.heatPromise_of_cut {s : State} (hgrant : s.thermal.grant = 0) (hgate : s.thermal.gate = false) :
    s.HeatPromise := by
  refine ⟨⟨?_, ?_, ?_, ?_, ?_⟩, ?_, ?_⟩ <;> simp [hgrant, hgate]

theorem State.heatLoose_congr {s t : State} (h : t.SameHeater s)
    (hconditions : s.heatConditions = true → t.heatConditions = true) (hs : s.HeatLoose) : t.HeatLoose := by
  obtain ⟨-, hgrant, hgate, hrating, hlimit, hremainder⟩ := h
  obtain ⟨hsgate, hsconditions, hsrating, hslimit, hsremainder⟩ := hs
  constructor <;> simp_all

theorem State.heatPromise_congr {s t : State} (h : t.SameHeater s)
    (henabled : s.heatEnabled = true → t.heatEnabled = true) (hs : s.HeatPromise) : t.HeatPromise := by
  rw [State.heatPromise_iff] at hs ⊢
  simp_all [State.HeaterGuarded, State.GrantBounded]

theorem State.heatEnabled_updateBlade (s : State) : s.updateBlade.heatEnabled = s.heatEnabled := by
  simp [State.heatEnabled, State.leaseLive, State.mainsLost]

/-- The blade drive's own fields are nothing to the heater. -/
theorem State.heatPromise_setBlade {s : State} (b : Blade) (hs : s.HeatPromise) :
    State.HeatPromise { s with blade := b } :=
  State.heatPromise_congr (s := s) (by simp) (fun h => h) hs

theorem State.heatPromise_updateBlade {s : State} (hs : s.HeatPromise) : s.updateBlade.HeatPromise :=
  State.heatPromise_congr (s := s) (by simp) (by simp [State.heatEnabled_updateBlade]) hs

theorem State.heatLoose_handStir {s : State} (p : StirPoint) (hs : s.HeatLoose) : (s.handStir p).HeatLoose :=
  State.heatLoose_congr (s := s) (by simp) (by simp [State.heatConditions, State.leaseLive, State.mainsLost]) hs

theorem State.heatPromise_handStir {s : State} (p : StirPoint) (hs : s.HeatPromise) : (s.handStir p).HeatPromise :=
  State.heatPromise_congr (s := s) (by simp) (by simp [State.heatEnabled, State.leaseLive, State.mainsLost]) hs

/-- A handover keeps a grant only under a set point whose cap it does not exceed (R115). -/
theorem State.heatPromise_handHeat {s : State} (hs : s.HeatLoose) : s.handHeat.HeatPromise := by
  unfold State.handHeat
  dsimp only
  split_ifs with hcut
  · exact State.heatPromise_of_cut (by simp) (by simp)
  · obtain ⟨p, hp, hcap⟩ : ∃ p, s.heatPoint = some p ∧ s.thermal.grant ≤ p.cap := by
      cases hpoint : s.heatPoint with
      | none => simp [hpoint] at hcut
      | some p => exact ⟨p, rfl, by simpa [hpoint] using hcut⟩
    obtain ⟨hgate, hconditions, hrating, hlimit, hremainder⟩ := hs
    refine ⟨⟨hgate, hconditions, hrating, hlimit, hremainder⟩, fun _ => ?_, by simpa [hp] using hcap⟩
    by_contra hhalts
    rw [State.heatPoint_of_not_halts (s := s) (Bool.eq_false_iff.mpr hhalts)] at hp
    cases hp

theorem State.heatPromise_endRest {s : State} (hs : s.HeatPromise) : s.endRest.HeatPromise := by
  unfold State.endRest
  split_ifs
  · exact State.heatPromise_updateBlade (State.heatPromise_setBlade _ hs)
  · exact hs

theorem State.heatPromise_brake {s : State} (hs : s.HeatPromise) : s.brake.HeatPromise :=
  State.heatPromise_endRest (State.heatPromise_setBlade _ (State.heatPromise_setBlade _ hs))

/-- A change of the conditions cuts the grant where it ends heat enable (R115). -/
theorem State.heatPromise_gates {s t : State} (h : t.SameHeater s) (hs : s.HeatPromise) : (s.gates t).HeatPromise := by
  have hbrake (t : State) (h : t.HeatPromise) : State.HeatPromise (State.updateBlade
      (if s.motionEnabled && !t.motionEnabled then t.brake else t)) := by
    refine State.heatPromise_updateBlade ?_
    split_ifs
    · exact State.heatPromise_brake h
    · exact h
  unfold State.gates
  refine hbrake _ ?_
  split_ifs with hlost
  · exact State.heatPromise_of_cut (by simp) (by simp)
  · exact State.heatPromise_congr h (by simp_all) hs

theorem State.heatPromise_warmReset (s : State) : s.warmReset.HeatPromise := by
  unfold State.warmReset
  exact State.heatPromise_brake (State.heatPromise_handStir _ (State.heatPromise_of_cut (by simp [Thermal.warm])
    (by simp [Thermal.warm])))

theorem heaterHanded : Handed (fun _ => True) State.HeatPromise State.HeatLoose where
  congr h hgates _ hs := State.heatPromise_congr (by simp_all) (by simp [State.heatEnabled_congr h hgates.1]) hs
  edited _ h hgates _ hs := State.heatPromise_congr (by simp_all) (by simp [State.heatEnabled_congr h hgates.1]) hs
  unreached _ _ _ h hrun hs := by
    refine State.heatPromise_congr (by simp_all) ?_ hs
    simp +contextual [State.heatEnabled_eq, State.heatConditions_congr h, hrun, RunState.halts]
  bus _ h := h
  loose h := h.toHeatLoose
  rerun h hs := State.heatLoose_congr (by simp_all) (by simp [State.heatConditions_congr h]) hs
  derate {s} hs :=
    State.heatLoose_congr (s := s) (by simp) (by simp [State.heatConditions, State.leaseLive, State.mainsLost]) hs
  handStirHeat p hs := State.heatPromise_handHeat (State.heatLoose_handStir p hs)
  handHeatStir p hs := State.heatPromise_handStir p (State.heatPromise_handHeat hs)
  follow h _ _ henabled _ _ hs := State.heatPromise_updateBlade (State.heatPromise_congr h henabled hs)
  gates h _ _ _ hs := State.heatPromise_gates h hs
  cut _ _ _ hgrant hgate _ := State.heatPromise_of_cut hgrant hgate
  release x _ hs := State.heatPromise_setBlade _ hs
  rest := State.heatPromise_endRest
  rated {s} r hconfig hs := by
    have hgrant : s.thermal.grant = 0 := by
      by_contra hpos
      simpa [hconfig, RunState.halts] using hs.halts (Nat.pos_of_ne_zero hpos)
    refine State.heatPromise_of_cut hgrant (Bool.eq_false_iff.mpr fun hgate => ?_)
    have := hs.gate hgate
    omega
  limited w hw hs := by
    obtain ⟨⟨hgate, hconditions, hrating, -, hremainder⟩, hhalts, hcap⟩ := hs
    exact ⟨⟨hgate, hconditions, hrating, hw, hremainder⟩, hhalts, hcap⟩
  warm _ := State.heatPromise_warmReset _
  powerOn a n := State.heatPromise_of_cut rfl rfl

/-! ## The window -/

/-- The grant of a window start is bounded as R111 says, and stands only while heat is enabled. -/
theorem State.computedGrant_bounds (s : State) :
    s.computedGrant ≤ (s.thermal.setPoint.map HeatPoint.cap).getD 0 ∧ s.computedGrant ≤ s.thermal.rating ∧
    s.computedGrant ≤ s.safety.limit ∧ s.computedGrant ≤ s.budget.remainder ∧
    (0 < s.computedGrant → s.heatEnabled = true) := by
  unfold State.computedGrant
  split_ifs with henabled
  · have hcap : heaterRequest s.thermal.setPoint s.thermal.tb ≤ (s.thermal.setPoint.map HeatPoint.cap).getD 0 := by
      cases s.thermal.setPoint with
      | none => simp [heaterRequest]
      | some p =>
        cases s.thermal.tb with
        | none => simp [heaterRequest]
        | some tb => exact heaterRequest_le_cap p tb
    refine ⟨by omega, by omega, by omega, by omega, fun _ => henabled⟩
  · simp

theorem State.heatPromise_grantWindow (s : State) : s.grantWindow.HeatPromise := by
  obtain ⟨hcap, hrating, hlimit, hremainder, henabled⟩ := s.computedGrant_bounds
  have hgate (h : s.grantWindow.thermal.gate = true) : 0 < s.grantWindow.thermal.grant := by
    simp [State.grantWindow, State.fires] at h ⊢
    exact h.2
  rw [State.heatPromise_iff]
  refine ⟨⟨hgate, fun hpos => ?_⟩, ?_⟩
  · have := henabled (by simpa [State.grantWindow] using hpos)
    simpa [State.grantWindow, State.heatEnabled, State.leaseLive, State.mainsLost] using this
  · simpa [State.grantWindow] using ⟨hcap, hrating, hlimit, hremainder⟩

theorem State.heatPromise_beginCycle {s : State} (hs : s.HeatPromise) : s.beginCycle.HeatPromise := by
  unfold State.beginCycle
  split
  · split_ifs
    · rw [State.heatPromise_iff] at hs ⊢
      refine ⟨⟨fun hfires => ?_, hs.1.2⟩, hs.2⟩
      simp [State.fires] at hfires
      exact hfires.2
    · exact State.heatPromise_grantWindow _
  · exact State.heatPromise_grantWindow _

/-- Settles O7: a grant is made within the bounds, and cut where a bound, the set point or heat enable falls below it. -/
theorem stepKeepsHeaterGuarded : Obligations.StepKeepsHeaterGuarded := by
  intro s t ht h
  rw [← State.heatPromise_iff] at h ⊢
  exact heaterHanded.step State.heatPromise_beginCycle (fun _ h => h) trivial h ht

end Sys2Proof.Machine
end

section
/-! SUPPORT. What the run controller's shared operations leave of run and notices, as equations: an addition to the
hold-cause set, the examination of the interlocks, an entry, an arrival and an exit. -/

namespace Sys2Proof.Machine

@[simp] theorem RunState.inRun_running : RunState.inRun .running = true := rfl
@[simp] theorem RunState.inRun_held : RunState.inRun .held = true := rfl

theorem RunState.inRun_iff {r : RunState} : r.inRun = true ↔ r = .running ∨ r = .held := by
  cases r <;> simp [RunState.inRun]

theorem RunState.halts_iff {r : RunState} : r.halts = true ↔ r.inRun = true ∨ r = .manual := by
  cases r <;> simp [RunState.inRun, RunState.halts]

theorem State.noticesAfter_congr {s t : State} (hnotices : t.notices = s.notices) (hclock : t.run.clock = s.run.clock) :
    t.noticesAfter = s.noticesAfter := by
  funext kind index value
  rw [State.noticesAfter, State.noticesAfter, hnotices, hclock]

@[simp] theorem State.hold_run (s : State) : s.hold.run = { s.run with state := .held } := by
  simp [State.hold]

/-! ### The hold-cause set -/

theorem State.addCauses_of_idle {s : State} {c : CauseSet} (h : s.run.state.inRun = false) : s.addCauses c = s := by
  simp [State.addCauses, h]

theorem State.addCauses_of_present {s : State} {c : CauseSet} (h : s.run.causes.union c = s.run.causes) :
    s.addCauses c = s := by
  simp [State.addCauses, h]

/-- Causes that the set lacks hold the run; in HELD they only join the set (R33). -/
theorem State.addCauses_of_absent {s : State} {c : CauseSet} (hin : s.run.state.inRun = true)
    (h : s.run.causes.union c ≠ s.run.causes) : s.addCauses c =
      State.send (if s.run.state = .running then (s.setCauses (s.run.causes.union c)).hold
        else s.setCauses (s.run.causes.union c)) .held (some s.run.cursor) (some (.causes (s.run.causes.union c))) := by
  unfold State.addCauses
  dsimp only
  rw [if_neg (by simp [h, hin])]
  split_ifs <;> simp_all

theorem State.addCauses_run {s : State} {c : CauseSet} (hin : s.run.state.inRun = true)
    (h : s.run.causes.union c ≠ s.run.causes) :
    (s.addCauses c).run = { s.run with state := .held, causes := s.run.causes.union c } := by
  rw [State.addCauses_of_absent hin h]
  split_ifs with hrun
  · simp [State.setCauses]
  · have hheld := (RunState.inRun_iff.mp hin).resolve_left hrun
    simp [State.setCauses, ← hheld]

theorem State.addCauses_notices {s : State} {c : CauseSet} (hin : s.run.state.inRun = true)
    (h : s.run.causes.union c ≠ s.run.causes) : (s.addCauses c).notices =
      s.noticesAfter .held (some s.run.cursor) (some (.causes (s.run.causes.union c))) := by
  rw [State.addCauses_of_absent hin h, State.send_notices]
  split_ifs
  · rw [State.noticesAfter_congr (s := s) (by simp) (by simp)]
  · rfl

/-! ### The examination of the interlocks -/

/-- An interlock cause whose condition holds and that the set lacks (R34). -/
def State.begins (s : State) : Bool :=
  (s.stepInterlocks.lid && !s.run.causes.lid) || (s.stepInterlocks.permit && !s.run.causes.permit) ||
    (s.stepInterlocks.leaseNotLive && !s.run.causes.leaseNotLive) ||
    (s.stepInterlocks.sensor && !s.run.causes.sensor) || (s.stepInterlocks.mains && !s.run.causes.mains)

/-- The set with the interlock causes brought to what holds, and ACK where one begins (R33, R34). -/
def State.examinedCauses (s : State) : CauseSet :=
  { s.run.causes with
    lid := s.stepInterlocks.lid, permit := s.stepInterlocks.permit
    leaseNotLive := s.stepInterlocks.leaseNotLive, sensor := s.stepInterlocks.sensor
    mains := s.stepInterlocks.mains, ack := s.run.causes.ack || s.begins }

theorem State.stepInterlocks_congr {s t : State} (hrun : t.run.state.inRun = s.run.state.inRun)
    (hphase : t.run.phase = s.run.phase) (hcursor : t.run.cursor = s.run.cursor)
    (hsteps : t.program.steps = s.program.steps) (hsafety : t.safety = s.safety)
    (hbase : t.thermal.base = s.thermal.base) (hmains : t.thermal.mains = s.thermal.mains) :
    t.stepInterlocks = s.stepInterlocks := by
  simp [State.stepInterlocks, State.stepActive, State.stepNeedsHeat, State.stepNeedsMotion, State.activeRecord,
    State.record, State.leaseLive, State.mainsLost, hrun, hphase, hcursor, hsteps, hsafety, hbase, hmains]

theorem State.manualInterlocks_congr {s t : State} (hsafety : t.safety = s.safety)
    (hbase : t.thermal.base = s.thermal.base) (hmains : t.thermal.mains = s.thermal.mains) :
    t.manualInterlocks = s.manualInterlocks := by
  funext level heat
  simp [State.manualInterlocks, State.leaseLive, State.mainsLost, hsafety, hbase, hmains]

/-- The interlock causes that hold are interlock causes alone. -/
@[simp] theorem State.stepInterlocks_others (s : State) :
    s.stepInterlocks.pause = false ∧ s.stepInterlocks.holdPoint = false ∧ s.stepInterlocks.overdue = false ∧
    s.stepInterlocks.stall = false ∧ s.stepInterlocks.ack = false := ⟨rfl, rfl, rfl, rfl, rfl⟩

theorem State.begins_eq_false {s : State} :
    s.begins = false ↔ s.stepInterlocks.diff s.run.causes = {} := by
  simp [State.begins, CauseSet.diff, and_assoc]

theorem CauseSet.isEmpty_iff {c : CauseSet} : c.isEmpty = true ↔ c = {} := by simp [CauseSet.isEmpty]

/-- Causes join a set without a change where the set lacks none of them. -/
theorem CauseSet.union_eq_left_iff {a c : CauseSet} : a.union c = a ↔ c.diff a = {} := by
  have hflag (x y : Bool) : (x || y) = x ↔ (y && !x) = false := by cases x <;> cases y <;> simp
  obtain ⟨⟩ := a
  simp only [CauseSet.union, CauseSet.diff, CauseSet.mk.injEq, hflag]

/-- What the examination of a run leaves of its set before causes are added: those whose condition has ended leave. -/
def State.keptCauses (s : State) : CauseSet :=
  s.run.causes.others.union (s.run.causes.interlocks.inter s.stepInterlocks)

theorem State.examinedCauses_of_begins {s : State} (h : s.begins = false) : s.keptCauses = s.examinedCauses := by
  have hended (x y : Bool) (h : (y && !x) = false) : (x && y) = y := by cases x <;> cases y <;> simp_all
  simp only [State.begins, Bool.or_eq_false_iff, and_assoc] at h
  obtain ⟨hlid, hpermit, hlease, hsensor, hmains⟩ := h
  simp [State.keptCauses, State.examinedCauses, CauseSet.union, CauseSet.inter, CauseSet.others, CauseSet.interlocks,
    State.begins, *]

theorem State.examineRun_of_idle {s : State} (h : s.run.state.inRun = false) : s.examineRun = s := by
  simp [State.examineRun, h]

/-- Where no cause begins, the examination only lets ended causes leave. -/
theorem State.examineRun_of_quiet {s : State} (hin : s.run.state.inRun = true) (h : s.begins = false) :
    s.examineRun = s.setCauses s.examinedCauses := by
  unfold State.examineRun
  rw [if_pos hin]
  dsimp only
  rw [State.begins_eq_false.mp h]
  exact congrArg s.setCauses (State.examinedCauses_of_begins h)

/-- The interlock causes that begin, with ACK. -/
def State.begunCauses (s : State) : CauseSet := (s.stepInterlocks.diff s.run.causes).withAck

theorem State.begunCauses_of_begins {s : State} (h : s.begins = true) :
    s.begunCauses = { s.stepInterlocks.diff s.run.causes with ack := true } := by
  have hself : (s.stepInterlocks.diff s.run.causes).interlocks = s.stepInterlocks.diff s.run.causes := by
    simp [CauseSet.interlocks, CauseSet.diff]
  have hsome : (s.stepInterlocks.diff s.run.causes).isEmpty = false := by
    rw [Bool.eq_false_iff, ne_eq, CauseSet.isEmpty_iff, ← State.begins_eq_false]
    simp [h]
  simp [State.begunCauses, CauseSet.withAck, CauseSet.hasInterlock, hself, hsome]

theorem State.keptCauses_union_begun {s : State} (h : s.begins = true) :
    s.keptCauses.union s.begunCauses = s.examinedCauses ∧ s.keptCauses.union s.begunCauses ≠ s.keptCauses := by
  have hjoined (x y : Bool) : (x && y || y && !x) = y := by cases x <;> cases y <;> simp
  have hunion : s.keptCauses.union s.begunCauses = s.examinedCauses := by
    rw [State.begunCauses_of_begins h]
    simp [State.keptCauses, State.examinedCauses, CauseSet.union, CauseSet.inter, CauseSet.others,
      CauseSet.interlocks, CauseSet.diff, h, hjoined]
  refine ⟨hunion, fun hsame => ?_⟩
  have hheld (x y : Bool) : y = (x && y) ↔ (y && !x) = false := by cases x <;> cases y <;> simp
  have hquiet : s.begins = false := by
    rw [hunion] at hsame
    simp only [State.keptCauses, State.examinedCauses, CauseSet.union, CauseSet.inter, CauseSet.others,
      CauseSet.interlocks, CauseSet.mk.injEq, Bool.false_or, hheld] at hsame
    simp only [State.begins, Bool.or_eq_false_iff]
    tauto
  simp [hquiet] at h

/-- Where a cause begins, the run is held with one notice. -/
theorem State.examineRun_of_begins {s : State} (hin : s.run.state.inRun = true) (h : s.begins = true) :
    s.examineRun = (s.setCauses s.keptCauses).addCauses s.begunCauses := by
  have hbegun : (s.stepInterlocks.diff s.run.causes).isEmpty = false := by
    rw [Bool.eq_false_iff, ne_eq, CauseSet.isEmpty_iff, ← State.begins_eq_false]
    simp [h]
  unfold State.examineRun
  rw [if_pos hin]
  dsimp only
  rw [hbegun]
  rfl

theorem State.examineRun_run {s : State} (hin : s.run.state.inRun = true) : s.examineRun.run =
    { s.run with state := if s.begins then .held else s.run.state, causes := s.examinedCauses } := by
  cases h : s.begins
  · rw [State.examineRun_of_quiet hin h]
    simp [State.setCauses]
  · obtain ⟨hunion, hne⟩ := State.keptCauses_union_begun h
    rw [State.examineRun_of_begins hin h, State.addCauses_run (by simpa using hin) (by simpa using hne)]
    simp [State.setCauses, hunion]

theorem State.examineRun_notices {s : State} (hin : s.run.state.inRun = true) : s.examineRun.notices =
    if s.begins then s.noticesAfter .held (some s.run.cursor) (some (.causes s.examinedCauses)) else s.notices := by
  cases h : s.begins
  · rw [State.examineRun_of_quiet hin h]
    simp
  · obtain ⟨hunion, hne⟩ := State.keptCauses_union_begun h
    rw [State.examineRun_of_begins hin h, State.addCauses_notices (by simpa using hin) (by simpa using hne)]
    simp [hunion, State.noticesAfter]

theorem State.examineRun_inRun (s : State) : s.examineRun.run.state.inRun = s.run.state.inRun := by
  cases hin : s.run.state.inRun
  · simp [State.examineRun_of_idle hin, hin]
  · rw [State.examineRun_run hin]
    split_ifs <;> simp [hin]

/-! ### Manual operation -/

@[simp] theorem State.endManual_run (s : State) : s.endManual.run =
    { s.run with state := s.restState, manualLevel := 0, manualHeat := none } := by
  simp [State.endManual, State.clearManual]

@[simp] theorem State.endManual_notices (s : State) : s.endManual.notices = s.notices := by
  simp [State.endManual]

theorem State.examineManual_of_other {s : State} (h : s.run.state ≠ .manual) : s.examineManual = s := by
  simp [State.examineManual, h]

theorem CauseSet.withAck_of_interlocks {c : CauseSet} (h : c.interlocks = c) (hne : c ≠ {}) :
    c.withAck = { c with ack := true } := by
  have hsome : c.isEmpty = false := by simpa [CauseSet.isEmpty] using hne
  simp [CauseSet.withAck, CauseSet.hasInterlock, h, hsome]

/-- The interlock conditions that end manual operation (R47). -/
def State.ending (s : State) : CauseSet := s.manualInterlocks s.run.manualLevel s.run.manualHeat.isSome

theorem State.examine_of_inRun {s : State} (hin : s.run.state.inRun = true) : s.examine = s.examineRun := by
  refine State.examineManual_of_other fun hmanual => ?_
  have h := s.examineRun_inRun
  rw [hin, hmanual] at h
  cases h

theorem State.examine_of_ending {s : State} (hstate : s.run.state = .manual) (h : s.ending ≠ {}) :
    s.examine = s.endManual.send .held none (some (.causes { s.ending with ack := true })) := by
  have hsome : s.ending.isEmpty = false := by simpa [CauseSet.isEmpty] using h
  have hack : s.ending.withAck = { s.ending with ack := true } := CauseSet.withAck_of_interlocks rfl h
  have hin : s.run.state.inRun = false := by simp [hstate, RunState.inRun]
  unfold State.examine State.examineManual
  rw [State.examineRun_of_idle hin, ← hack]
  exact if_pos (by simp [hstate]; exact hsome)

theorem State.examine_of_other {s : State} (hin : s.run.state.inRun = false)
    (h : s.run.state = .manual → s.ending = {}) : s.examine = s := by
  unfold State.examine State.examineManual
  rw [State.examineRun_of_idle hin]
  refine if_neg fun hending => ?_
  simp only [Bool.and_eq_true, decide_eq_true_eq, Bool.not_eq_true'] at hending
  obtain ⟨hstate, hending⟩ := hending
  have := CauseSet.isEmpty_iff.mpr (h hstate)
  simp_all [State.ending]

theorem State.examineRun_stepInterlocks (s : State) : s.examineRun.stepInterlocks = s.stepInterlocks := by
  refine State.stepInterlocks_congr s.examineRun_inRun ?_ ?_ (by simp) (by simp) (by simp) (by simp)
  all_goals
    cases hin : s.run.state.inRun
    · rw [State.examineRun_of_idle hin]
    · rw [State.examineRun_run hin]

/-- The examination as it is written in the statements: what it leaves of the run and of the notices (R33, R34,
R47). -/
theorem State.examine_reexamined (s : State) : s.reexamined s.examine s.notices := by
  have hmanual : s.examine.manualInterlocks = s.manualInterlocks :=
    State.manualInterlocks_congr (by simp) (by simp) (by simp)
  cases hin : s.run.state.inRun
  · simp only [State.reexamined, hin, Bool.false_eq_true, if_false, hmanual]
    by_cases hending : s.run.state = .manual ∧ s.manualInterlocks s.run.manualLevel s.run.manualHeat.isSome ≠ {}
    · rw [if_pos hending, State.examine_of_ending hending.1 hending.2]
      simp [State.restState, State.ending, State.noticesAfter]
    · rw [if_neg hending, State.examine_of_other hin fun hstate => by_contra fun hne => hending ⟨hstate, hne⟩]
      exact ⟨rfl, rfl⟩
  · rw [State.examine_of_inRun hin]
    simp only [State.reexamined, hin, if_true, State.examineRun_stepInterlocks]
    rw [State.examineRun_run hin, State.examineRun_notices hin]
    exact ⟨rfl, rfl⟩

end Sys2Proof.Machine
end

section
/-! SUPPORT. The events that leave run, notices, log, masses and safety block as they are, with their common frame: what
other events do is treated one by one. -/

namespace Sys2Proof.Machine

/-- The events of timers, pulses, pins and bus phases, which the run controller takes no part in. -/
def isPlain : Instr → Bool
  | .badFrame .. | .writeAddressPhase .. | .writeEnd .. | .readAddressPhase .. | .runClockTick .. | .activeTimeTick ..
  | .freeClockTick | .indexPulse .. | .scaleTrigInEdge .. | .bladeStopped | .thermistorTimer | .motorITimer
  | .ventFanRunoutEnd | .rampStep | .intervalPhaseEnd | .kneadHalfEnd | .inverterRestWaitEnd | .lidLockSettleEnd
  | .speedCheck | .speedTimeout | .buzzerPhaseEnd | .runLampBlink => true
  | _ => false

/-- What a plain event leaves. -/
@[simp] abbrev State.SamePlainly (t s : State) : Prop :=
  t.program.Kept s.program ∧ t.run.state = s.run.state ∧ t.run.cursor = s.run.cursor ∧ t.run.phase = s.run.phase ∧
  t.run.causes = s.run.causes ∧ t.run.manualLevel = s.run.manualLevel ∧ t.run.manualHeat = s.run.manualHeat ∧
  t.log = s.log ∧ t.notices = s.notices ∧ t.safety = s.safety ∧ t.weigh.history = s.weigh.history ∧
  t.weigh.recent = s.weigh.recent ∧ t.weigh.settled = s.weigh.settled ∧ t.weigh.reported = s.weigh.reported ∧
  t.weigh.tare = s.weigh.tare

@[simp] theorem State.moveLevel_frame (s : State) (up : Bool) :
    (s.moveLevel up).now = s.now ∧ (s.moveLevel up).program = s.program ∧ (s.moveLevel up).run = s.run ∧
    (s.moveLevel up).weigh = s.weigh ∧ (s.moveLevel up).log = s.log ∧ (s.moveLevel up).thermal = s.thermal ∧
    (s.moveLevel up).converter = s.converter ∧ (s.moveLevel up).safety = s.safety ∧
    (s.moveLevel up).notices = s.notices ∧ (s.moveLevel up).bus = s.bus ∧ (s.moveLevel up).aux = s.aux ∧
    (s.moveLevel up).pending = s.pending := by
  cases up <;> simp [State.moveLevel]

@[simp] theorem State.countPulse_frame (s : State) :
    s.countPulse.now = s.now ∧ s.countPulse.program = s.program ∧ s.countPulse.run = s.run ∧
    s.countPulse.weigh = s.weigh ∧ s.countPulse.log = s.log ∧ s.countPulse.thermal = s.thermal ∧
    s.countPulse.budget = s.budget ∧ s.countPulse.converter = s.converter ∧ s.countPulse.safety = s.safety ∧
    s.countPulse.notices = s.notices ∧ s.countPulse.bus = s.bus ∧ s.countPulse.aux = s.aux ∧
    s.countPulse.pending = s.pending := by
  simp [State.countPulse]

/-- Left by a trigger: all but the kind fixed for its sample (R51). -/
@[simp] theorem State.trigger_kept (s : State) :
    s.trigger.weigh.cal = s.weigh.cal ∧ s.trigger.weigh.policy = s.weigh.policy ∧
    s.trigger.weigh.kind = s.weigh.kind ∧ s.trigger.weigh.lastKind = s.weigh.lastKind ∧
    s.trigger.weigh.historyKind = s.weigh.historyKind ∧ s.trigger.weigh.history = s.weigh.history ∧
    s.trigger.weigh.recent = s.weigh.recent ∧ s.trigger.weigh.reported = s.weigh.reported ∧
    s.trigger.weigh.range = s.weigh.range ∧ s.trigger.weigh.settled = s.weigh.settled ∧
    s.trigger.weigh.tare = s.weigh.tare ∧ s.trigger.weigh.tareTimer = s.weigh.tareTimer ∧
    s.trigger.weigh.nearArmed = s.weigh.nearArmed ∧ s.trigger.weigh.freeDue = s.weigh.freeDue := by
  unfold State.trigger
  split_ifs <;> simp

@[simp] theorem State.forceTare_kept (s : State) : s.forceTare.program.Kept s.program := by
  unfold State.forceTare
  dsimp only
  split_ifs <;> simp

theorem State.takeFrame_samePlainly {s s1 : State} {f : Frame} (h : s.takeFrame f = some s1) : s1.SamePlainly s := by
  rcases State.takeFrame_cases h with ⟨rest, -, rfl⟩ | ⟨-, -, -, rfl⟩ <;> simp

theorem samePlainly_of_isPlain {i : Instr} (hi : isPlain i = true) {s t : State} (ht : exec i s = .next t) :
    t.SamePlainly s := by
  cases i <;> simp only [isPlain, Bool.false_eq_true] at hi <;> obtain rfl := Host.Outcome.next.inj ht
  case thermistorTimer => simp
  case motorITimer => simp
  case speedCheck =>
    split
    · split_ifs <;> simp
    · simp
  case badFrame =>
    split_ifs
    · split
      next h => simpa using State.takeFrame_samePlainly h
      · simp
    · simp
  case readAddressPhase => split <;> simp
  case writeAddressPhase =>
    repeat' split
    all_goals simp
  case freeClockTick =>
    repeat' split
    all_goals simp
  case indexPulse =>
    dsimp only
    split_ifs <;> simp
  case inverterRestWaitEnd =>
    repeat' split
    all_goals simp
  all_goals split <;> simp [State.riseActive]

end Sys2Proof.Machine
end

section
/-! SUPPORT. The run controller stays sound over every step (R21, R22, R33, R46, R80). -/

namespace Sys2Proof.Machine

/-! ## Soundness, and its loose form at a cursor that may have reached the length -/

/-- What `State.RunSound` says beside the cursor's place in a run. -/
@[simp] abbrev Run.Loose (r : Run) (length : Nat) (isOpen : Bool) : Prop :=
  r.cursor ≤ length ∧ (r.phase = .active → r.state.inRun = true) ∧
  (r.state = .held ↔ r.causes.isEmpty = false) ∧ (r.causes.hasInterlock = true → r.causes.ack = true) ∧
  (r.state ≠ .manual → r.manualLevel = 0 ∧ r.manualHeat = none) ∧ (isOpen = true ↔ r.state.inRun = true) ∧
  (r.state = .idle → length = 0) ∧ (r.state = .ready ∨ r.state = .done → 0 < length)

/-- The run controller is sound but for the cursor's place in a run. -/
@[simp] abbrev State.RunLoose (s : State) : Prop := s.run.Loose s.program.length s.log.isOpen

theorem State.runSound_iff {s : State} :
    s.RunSound ↔ s.RunLoose ∧ (s.run.state.inRun = true → s.run.cursor < s.program.length) := by
  constructor
  · rintro ⟨hcursor, hbelow, hrest⟩
    exact ⟨⟨hcursor, hrest⟩, hbelow⟩
  · rintro ⟨⟨hcursor, hrest⟩, hbelow⟩
    exact ⟨hcursor, hbelow, hrest⟩

/-- The fields of the part that soundness reads. -/
@[simp] abbrev State.SameForRun (t s : State) : Prop :=
  t.run.state = s.run.state ∧ t.run.cursor = s.run.cursor ∧ t.run.phase = s.run.phase ∧
  t.run.causes = s.run.causes ∧ t.run.manualLevel = s.run.manualLevel ∧ t.run.manualHeat = s.run.manualHeat ∧
  t.program.steps = s.program.steps ∧ t.log.isOpen = s.log.isOpen

theorem State.runSound_congr {s t : State} (h : t.SameForRun s) (hs : s.RunSound) : t.RunSound := by
  obtain ⟨hstate, hcursor, hphase, hcauses, hlevel, hheat, hsteps, hopen⟩ := h
  simpa only [State.RunSound, Program.length, hstate, hcursor, hphase, hcauses, hlevel, hheat, hsteps, hopen] using hs

theorem CauseSet.hasInterlock_eq (c : CauseSet) :
    c.hasInterlock = (c.lid || c.permit || c.leaseNotLive || c.sensor || c.mains) := by
  rw [Bool.eq_iff_iff]
  simp [CauseSet.hasInterlock, CauseSet.isEmpty, CauseSet.interlocks]
  grind

theorem CauseSet.isEmpty_eq (c : CauseSet) : c.isEmpty = !(c.pause || c.holdPoint || c.overdue || c.stall ||
    c.hasInterlock || c.ack) := by
  rw [Bool.eq_iff_iff, CauseSet.hasInterlock_eq]
  obtain ⟨⟩ := c
  simp [CauseSet.isEmpty]
  tauto

theorem CauseSet.union_eq_empty {a c : CauseSet} (h : a.union c = {}) : a = {} ∧ c = {} := by
  obtain ⟨⟩ := a
  obtain ⟨⟩ := c
  simp_all [CauseSet.union]

theorem CauseSet.hasInterlock_union (a c : CauseSet) :
    (a.union c).hasInterlock = (a.hasInterlock || c.hasInterlock) := by
  simp only [CauseSet.hasInterlock_eq, CauseSet.union]
  grind

/-! ## The hold-cause set -/

/-- A run that is held under a set that is not empty. -/
theorem State.runLoose_held {s t : State} {c : CauseSet} (hin : s.run.state.inRun = true)
    (hc : c.isEmpty = false) (hack : c.hasInterlock = true → c.ack = true)
    (hrun : t.run = { s.run with state := .held, causes := c }) (hsteps : t.program.steps = s.program.steps)
    (hlog : t.log.isOpen = s.log.isOpen) (hs : s.RunLoose) : t.RunLoose := by
  obtain ⟨hcursor, hphase, hheld, hinterlock, hmanual, hopen, hidle, hready⟩ := hs
  have hstate : s.run.state ≠ .manual := by rintro h; rw [h] at hin; cases hin
  simp only [State.RunLoose, Run.Loose, Program.length, hrun, hsteps, hlog]
  refine ⟨hcursor, by simp, by simp [hc], hack, fun _ => hmanual hstate, by simp [hopen, hin], by simp, by simp⟩

theorem State.runLoose_addCauses {s : State} {c : CauseSet} (hc : c.hasInterlock = true → c.ack = true)
    (hs : s.RunLoose) : (s.addCauses c).RunLoose := by
  by_cases hin : s.run.state.inRun = true
  · by_cases h : s.run.causes.union c = s.run.causes
    · rwa [State.addCauses_of_present h]
    · refine State.runLoose_held hin ?_ ?_ (State.addCauses_run hin h) (by simp) (by simp) hs
      · rw [Bool.eq_false_iff, ne_eq, CauseSet.isEmpty_iff]
        intro hempty
        obtain ⟨hcauses, -⟩ := CauseSet.union_eq_empty hempty
        exact h (by rw [hempty, hcauses])
      · have hinterlock := hs.2.2.2.1
        rw [CauseSet.hasInterlock_union]
        simp only [CauseSet.union, Bool.or_eq_true]
        tauto
  · rwa [State.addCauses_of_idle (by simpa using hin)]

theorem State.addCauses_place (s : State) (c : CauseSet) : (s.addCauses c).run.cursor = s.run.cursor ∧
    (s.addCauses c).run.state.inRun = s.run.state.inRun := by
  by_cases hin : s.run.state.inRun = true
  · by_cases h : s.run.causes.union c = s.run.causes
    · simp [State.addCauses_of_present h]
    · simp [State.addCauses_run hin h, hin]
  · simp [State.addCauses_of_idle (by simpa using hin)]

theorem State.runSound_addCauses {s : State} {c : CauseSet} (hc : c.hasInterlock = true → c.ack = true)
    (hs : s.RunSound) : (s.addCauses c).RunSound := by
  obtain ⟨hloose, hbelow⟩ := State.runSound_iff.mp hs
  obtain ⟨hcursor, hin⟩ := s.addCauses_place c
  refine State.runSound_iff.mpr ⟨State.runLoose_addCauses hc hloose, ?_⟩
  simpa [Program.length, hcursor, hin] using hbelow

/-! ## The examination -/

theorem State.runLoose_examineRun {s : State} (hs : s.RunLoose) : s.examineRun.RunLoose := by
  by_cases hin : s.run.state.inRun = true
  swap
  · rwa [State.examineRun_of_idle (by simpa using hin)]
  obtain ⟨hcursor, hphase, hheld, hinterlock, hmanual, hopen, hidle, hready⟩ := id hs
  have hrun := State.examineRun_run hin
  cases hbegins : s.begins
  · rw [hbegins] at hrun
    have hcauses : s.examinedCauses.isEmpty = s.run.causes.isEmpty ∧
        (s.examinedCauses.hasInterlock = true → s.examinedCauses.ack = true) := by
      have hack : s.examinedCauses.ack = s.run.causes.ack := by simp [State.examinedCauses, hbegins]
      simp only [State.begins, Bool.or_eq_false_iff] at hbegins
      simp only [CauseSet.isEmpty_eq, CauseSet.hasInterlock_eq, hack] at hinterlock ⊢
      simp only [State.examinedCauses]
      grind
    simp only [State.RunLoose, Run.Loose, hrun, hcauses.1, State.examineRun_frame, Bool.false_eq_true, if_false]
    exact ⟨hcursor, hphase, hheld, hcauses.2, hmanual, hopen, hidle, hready⟩
  · rw [hbegins] at hrun
    refine State.runLoose_held hin ?_ ?_ hrun (by simp) (by simp) hs
    · simp [CauseSet.isEmpty_eq, State.examinedCauses, hbegins]
    · simp [State.examinedCauses, hbegins]

theorem State.examineRun_cursor (s : State) : s.examineRun.run.cursor = s.run.cursor := by
  cases hin : s.run.state.inRun
  · rw [State.examineRun_of_idle hin]
  · rw [State.examineRun_run hin]

theorem State.runSound_examineRun {s : State} (hs : s.RunSound) : s.examineRun.RunSound := by
  obtain ⟨hloose, hbelow⟩ := State.runSound_iff.mp hs
  refine State.runSound_iff.mpr ⟨State.runLoose_examineRun hloose, ?_⟩
  simpa [Program.length, State.examineRun_cursor, State.examineRun_inRun] using hbelow

/-- A run state outside a run, with set and manual set points empty, the phase BEFORE_ENTRY and the log closed. -/
theorem State.runSound_stopped {t : State} (hin : t.run.state.inRun = false) (hcauses : t.run.causes = {})
    (hphase : t.run.phase = .beforeEntry) (hlevel : t.run.manualLevel = 0) (hheat : t.run.manualHeat = none)
    (hopen : t.log.isOpen = false) (hcursor : t.run.cursor ≤ t.program.length)
    (hidle : t.run.state = .idle → t.program.length = 0)
    (hready : t.run.state = .ready ∨ t.run.state = .done → 0 < t.program.length) : t.RunSound := by
  have hheld : t.run.state ≠ .held := by rintro h; rw [h] at hin; cases hin
  exact ⟨hcursor, by simp [hin], by simp [hphase], by simp [hheld, hcauses, CauseSet.isEmpty],
    by simp [hcauses, CauseSet.hasInterlock_eq], fun _ => ⟨hlevel, hheat⟩, by simp [hopen, hin], hidle, hready⟩

/-- Outside a run a sound part stays sound where the run state changes among the states outside a run. -/
theorem State.runSound_rested {s t : State} (hs : s.RunSound) (hin : s.run.state.inRun = false)
    (htin : t.run.state.inRun = false) (hmanual : t.run.state ≠ .manual → s.run.state ≠ .manual)
    (hcauses : t.run.causes = s.run.causes) (hphase : t.run.phase = s.run.phase)
    (hlevel : t.run.manualLevel = s.run.manualLevel) (hheat : t.run.manualHeat = s.run.manualHeat)
    (hopen : t.log.isOpen = s.log.isOpen) (hcursor : t.run.cursor ≤ t.program.length)
    (hidle : t.run.state = .idle → t.program.length = 0)
    (hready : t.run.state = .ready ∨ t.run.state = .done → 0 < t.program.length) : t.RunSound := by
  obtain ⟨-, -, hsphase, hsheld, hinterlock, hsmanual, hsopen, -, -⟩ := hs
  have hnot {r : RunState} (h : r.inRun = false) : r ≠ .held := by rintro rfl; cases h
  refine ⟨hcursor, by simp [htin], by simpa [hphase, hin, htin] using hsphase, ?_, by simpa [hcauses] using hinterlock,
    fun h => by simpa [hlevel, hheat] using hsmanual (hmanual h), by simpa [hopen, hin, htin] using hsopen, hidle, hready⟩
  simpa [hnot htin, hnot hin, hcauses] using hsheld

/-- READY with a program and IDLE without one are sound states of rest. -/
theorem State.restState_place (s : State) : (s.restState = .idle → s.program.length = 0) ∧
    (s.restState = .ready ∨ s.restState = .done → 0 < s.program.length) ∧ s.restState.inRun = false := by
  rcases s.restState_cases with ⟨hlength, hstate⟩ | ⟨hlength, hstate⟩ <;>
    simp [hlength, hstate, RunState.inRun]

/-- Outside a run the set is empty, the phase is BEFORE_ENTRY and the log is closed. -/
theorem State.RunSound.atRest {s : State} (hs : s.RunSound) (hin : s.run.state.inRun = false) :
    s.run.causes = {} ∧ s.run.phase = .beforeEntry ∧ s.log.isOpen = false := by
  obtain ⟨-, -, hphase, hheld, -, -, hopen, -, -⟩ := hs
  have hstate : s.run.state ≠ .held := by rintro h; rw [h] at hin; cases hin
  refine ⟨CauseSet.isEmpty_iff.mp (by simpa [hstate] using hheld), ?_, by simpa [hin] using hopen⟩
  cases h : s.run.phase
  · rfl
  · simp [hphase h] at hin

/-- In RUNNING the set is empty. -/
theorem State.RunSound.causes_of_running {s : State} (hs : s.RunSound) (hstate : s.run.state = .running) :
    s.run.causes = {} :=
  CauseSet.isEmpty_iff.mp (by simpa [hstate] using hs.2.2.2.1)

theorem State.RunSound.manual_of_inRun {s : State} (hs : s.RunSound) (hin : s.run.state.inRun = true) :
    s.run.manualLevel = 0 ∧ s.run.manualHeat = none :=
  hs.2.2.2.2.2.1 fun h => by rw [h] at hin; cases hin

/-! ## Manual operation, HALTED and FAULTED -/

theorem State.runSound_endManual {s : State} (hstate : s.run.state = .manual) (hs : s.RunSound) :
    s.endManual.RunSound := by
  obtain ⟨hcauses, hphase, hopen⟩ := hs.atRest (by simp [hstate, RunState.inRun])
  obtain ⟨hidle, hready, hin⟩ := s.restState_place
  exact State.runSound_stopped (by simp [hin]) (by simp [hcauses]) (by simp [hphase]) (by simp) (by simp)
    (by simp [hopen]) (by simpa using hs.1) (by simpa using hidle) (by simpa using hready)

theorem State.runSound_examine {s : State} (hs : s.RunSound) : s.examine.RunSound := by
  by_cases hin : s.run.state.inRun = true
  · rw [State.examine_of_inRun hin]
    exact State.runSound_examineRun hs
  by_cases hending : s.run.state = .manual ∧ s.ending ≠ {}
  · rw [State.examine_of_ending hending.1 hending.2]
    exact State.runSound_endManual hending.1 hs
  · rwa [State.examine_of_other (by simpa using hin) fun hstate => by_contra fun hne => hending ⟨hstate, hne⟩]

/-- What the entries into HALTED and FAULTED leave of the run (R43, R45). -/
@[simp] theorem State.stopAll_run (s : State) (r : RunState) : (s.stopAll r).run =
    { s.run with state := r, phase := .beforeEntry, causes := {}, manualLevel := 0, manualHeat := none } := by
  simp [State.stopAll, State.setCauses, State.setPhase, State.clearManual]

@[simp] theorem State.stopAll_log (s : State) (r : RunState) : (s.stopAll r).log = { s.log with isOpen := false } := by
  simp [State.stopAll]

theorem State.runSound_stopAll {s t : State} {r : RunState} (hr : r = .halted ∨ r = .faulted)
    (hrun : t.run = (s.stopAll r).run) (hopen : t.log.isOpen = false) (hprogram : t.program = s.program)
    (hs : s.RunSound) : t.RunSound := by
  rw [State.stopAll_run] at hrun
  rcases hr with rfl | rfl <;>
    exact State.runSound_stopped (by simp [hrun, RunState.inRun]) (by simp [hrun]) (by simp [hrun]) (by simp [hrun])
      (by simp [hrun]) hopen (by simpa [hrun, hprogram] using hs.1) (by simp [hrun]) (by simp [hrun])

theorem State.runSound_enterHalted {s : State} (hs : s.RunSound) : s.enterHalted.RunSound := by
  unfold State.enterHalted
  exact State.runSound_stopAll (.inl rfl) (by simp) (by simp) (by simp) hs

theorem State.runSound_enterFaulted {s : State} (hs : s.RunSound) : s.enterFaulted.RunSound := by
  unfold State.enterFaulted
  exact State.runSound_stopAll (.inr rfl) (by simp) (by simp) (by simp) hs

theorem State.runSound_gates {r s : State} (hs : s.RunSound) : (r.gates s).RunSound :=
  State.runSound_congr (by simp) hs

theorem State.runSound_setStopLatch {s : State} (hs : s.RunSound) : s.setStopLatch.RunSound := by
  have hgates : State.RunSound (s.gates { s with safety := { s.safety with stopLatch := true } }) :=
    State.runSound_gates hs
  unfold State.setStopLatch
  dsimp only
  split_ifs
  · exact hs
  · exact State.runSound_enterHalted hgates
  · exact hgates

theorem State.runSound_lapse {s : State} (hs : s.RunSound) : s.lapse.RunSound := by
  have hgates : State.RunSound (s.gates { s with safety := { s.safety with
      lease := .lapsed, count := 0, keySequence := false } }) := State.runSound_gates hs
  unfold State.lapse
  dsimp only
  split_ifs
  · exact State.runSound_enterFaulted hgates
  · exact State.runSound_enterHalted hgates
  · exact hgates

/-! ## Entry, exit and arrival -/

/-- An entry up to its examination of the interlocks: stages 1 to 6 of R26. -/
def State.prepareStep (s : State) (r : StepRecord) : State :=
  (((s.beginStep r).removeDerate).handHeat.handStir r.stirPoint).announceStep r

theorem State.enterStep_eq {s : State} {r : StepRecord} (hr : s.record = some r) :
    s.enterStep = (s.prepareStep r).examineRun := by
  rw [State.enterStep, hr]
  rfl

@[simp] theorem State.beginStep_run (s : State) (r : StepRecord) : (s.beginStep r).run = { s.run with
    phase := .active, active := 0, countRose := false, met := [], reached := none, overdueTaken := false } := by
  unfold State.beginStep
  dsimp only
  split_ifs
  · unfold State.requestTare
    split <;> simp
  · simp

@[simp] theorem State.prepareStep_run (s : State) (r : StepRecord) : (s.prepareStep r).run = { s.run with
    phase := .active, active := 0, countRose := false, met := [], reached := none, overdueTaken := false } := by
  simp [State.prepareStep]

@[simp] theorem State.prepareStep_frame (s : State) (r : StepRecord) :
    (s.prepareStep r).now = s.now ∧ (s.prepareStep r).log = s.log ∧ (s.prepareStep r).converter = s.converter ∧
    (s.prepareStep r).safety = s.safety ∧ (s.prepareStep r).bus = s.bus ∧ (s.prepareStep r).pending = s.pending ∧
    (s.prepareStep r).program = (s.beginStep r).program := by
  simp [State.prepareStep]

theorem State.runSound_enterStep {s : State} (hin : s.run.state.inRun = true) (hs : s.RunSound) :
    s.enterStep.RunSound := by
  cases hr : s.record with
  | none => simpa [State.enterStep, hr] using hs
  | some r =>
    rw [State.enterStep_eq hr]
    refine State.runSound_examineRun ?_
    obtain ⟨hcursor, hbelow, -, hrest⟩ := hs
    simp only [State.RunSound, State.prepareStep_run, State.prepareStep_frame, Program.length, State.beginStep_kept]
    exact ⟨hcursor, hbelow, fun _ => hin, hrest⟩

theorem State.runSound_arrive {s : State} (hin : s.run.state.inRun = true) (hs : s.RunSound) :
    s.arrive.RunSound := by
  unfold State.arrive
  split_ifs
  · exact State.runSound_addCauses (by simp [CauseSet.hasInterlock_eq]) hs
  · exact State.runSound_enterStep hin hs

@[simp] theorem State.finishRun_run (s : State) : s.finishRun.run = { s.run with state := .done, causes := {} } := by
  simp [State.finishRun, State.setCauses, State.startBuzzer]

@[simp] theorem State.finishRun_log (s : State) : s.finishRun.log = { s.log with isOpen := false } := by
  simp [State.finishRun, State.startBuzzer]

/-- With no step ACTIVE no interlock concerns the run (R34). -/
theorem State.stepInterlocks_of_inactive {s : State} (h : s.stepActive = false) : s.stepInterlocks = {} := by
  simp [State.stepInterlocks, State.stepNeedsHeat, State.stepNeedsMotion, State.activeRecord, h]

/-- The run after the cursor has risen: interlock causes have left with the step (R31, R34). -/
theorem State.advance_run {s : State} (hin : s.run.state.inRun = true) : s.advance.run = { s.run with
    cursor := s.run.cursor + 1, phase := .beforeEntry, met := [], reached := none, countRose := false
    active := if s.program.length ≤ s.run.cursor + 1 then s.run.active else 0
    causes := s.run.causes.others } := by
  unfold State.advance
  dsimp only
  have hinactive {u : State} (hphase : u.run.phase = .beforeEntry) : u.stepInterlocks = {} :=
    State.stepInterlocks_of_inactive (by simp [State.stepActive, hphase])
  rw [State.examineRun_run (by simpa using hin)]
  simp [State.begins, State.examinedCauses, hinactive, CauseSet.others]

/-- In a run the cursor can rise: soundness holds but for its place. -/
theorem State.runLoose_advance {s : State} (hin : s.run.state.inRun = true) (hs : s.RunSound) : s.advance.RunLoose := by
  obtain ⟨-, hbelow, -, hheld, hinterlock, hmanual, hopen, hidle, hready⟩ := hs
  have hstep := hbelow hin
  have hothers : s.run.causes.others.isEmpty = s.run.causes.isEmpty := by
    simp only [CauseSet.isEmpty_eq, CauseSet.hasInterlock_eq, CauseSet.others] at hinterlock ⊢
    grind
  simp only [State.RunLoose, Run.Loose, State.advance_run hin, State.advance_frame, hothers]
  exact ⟨by omega, by simp, hheld, by simp [CauseSet.hasInterlock_eq, CauseSet.others], hmanual, hopen, hidle, hready⟩

theorem State.runSound_finishRun {s : State} (hs : s.RunLoose) (hphase : s.run.phase = .beforeEntry)
    (hmanual : s.run.manualLevel = 0 ∧ s.run.manualHeat = none) (hlength : 0 < s.program.length) :
    s.finishRun.RunSound := by
  have hprogram : s.finishRun.program.length = s.program.length := by simp [Program.length]
  exact State.runSound_stopped (by simp [RunState.inRun]) (by simp) (by simp [hphase]) (by simp [hmanual.1])
    (by simp [hmanual.2]) (by simp) (by rw [hprogram]; simpa using hs.1) (by simp) (by rw [hprogram]; simp [hlength])

theorem State.runSound_proceed {s : State} (hin : s.run.state.inRun = true) (hs : s.RunLoose)
    (hphase : s.run.phase = .beforeEntry) (hlength : 0 < s.program.length) : s.proceed.RunSound := by
  unfold State.proceed
  split_ifs with hend
  · exact State.runSound_finishRun hs hphase (hs.2.2.2.2.1 fun h => by rw [h] at hin; cases hin) hlength
  · exact State.runSound_arrive hin (State.runSound_iff.mpr ⟨hs, fun _ => by simpa [State.atEnd] using hend⟩)

/-- The rise of the cursor and what follows it: DONE, or the next arrival. -/
theorem State.runSound_advance_proceed {s : State} (hin : s.run.state.inRun = true) (hs : s.RunSound) :
    s.advance.proceed.RunSound := by
  have hlength : 0 < s.program.length := Nat.zero_lt_of_lt (hs.2.1 hin)
  exact State.runSound_proceed (by simp [State.advance_run hin, hin]) (State.runLoose_advance hin hs)
    (by simp [State.advance_run hin]) (by simpa using hlength)

theorem State.runSound_exitStep {s : State} (reason : EndReason) (hin : s.run.state.inRun = true) (hs : s.RunSound) :
    (s.exitStep reason).RunSound :=
  State.runSound_advance_proceed (by simpa using hin) (State.runSound_congr (by simp) hs)

theorem State.runSound_decideEnd {s : State} (hs : s.RunSound) : s.decideEnd.RunSound := by
  unfold State.decideEnd
  split_ifs with hstate
  · split
    · exact State.runSound_exitStep _ (by simp [hstate.1]) hs
    · exact hs
  · exact hs

theorem State.runSound_latch {s : State} (c : Condition) (hs : s.RunSound) : (s.latch c).RunSound := by
  unfold State.latch
  split_ifs
  · exact State.runSound_decideEnd (State.runSound_congr (s := s) (by simp) hs)
  · exact State.runSound_decideEnd (State.runSound_congr (s := s) (by simp) hs)
  · exact hs

/-! ## The commands of a run -/

theorem State.runSound_startRun {s : State} (hstate : s.run.state = .ready ∨ s.run.state = .done)
    (hs : s.RunSound) : s.startRun.RunSound := by
  have hlength : 0 < s.program.length := hs.2.2.2.2.2.2.2.2 hstate
  have hmanual := hs.2.2.2.2.2.1 (by rcases hstate with h | h <;> simp [h])
  refine State.runSound_arrive (by simp) ?_
  simp only [State.RunSound, Program.length] at hlength ⊢
  simp [CauseSet.isEmpty_eq, CauseSet.hasInterlock_eq, hmanual]
  exact hlength

theorem State.runSound_resumeRun {s : State} (hstate : s.run.state = .held) (hs : s.RunSound) :
    s.resumeRun.RunSound := by
  have hin : s.run.state.inRun = true := by simp [hstate]
  have hbegun : State.RunSound { (s.setCauses {}).setRunState .running with
      run := { ((s.setCauses {}).setRunState .running).run with countRose := false } } := by
    obtain ⟨hcursor, hbelow, -, -, -, -, hopen, -, -⟩ := id hs
    obtain ⟨hlevel, hheat⟩ := hs.manual_of_inRun hin
    simp only [State.RunSound, State.setRunState_run, State.setCauses_run, State.setCauses_program,
      State.setRunState_program, State.setRunState_log, State.setCauses_log]
    exact ⟨hcursor, fun _ => hbelow hin, by simp, by simp [CauseSet.isEmpty_eq, CauseSet.hasInterlock_eq],
      by simp [CauseSet.hasInterlock_eq], fun _ => ⟨hlevel, hheat⟩, by simp [hopen, hin], by simp, by simp⟩
  unfold State.resumeRun
  dsimp only
  split_ifs
  · exact State.runSound_decideEnd (State.runSound_congr (by simp) hbegun)
  · exact State.runSound_enterStep (by simp) hbegun

theorem State.holdNext_run {s : State} (hstate : s.run.state = .held) : s.holdNext.run = { s.run with
    causes := { s.run.causes with holdPoint := true, overdue := false, stall := false } } := by
  have habsent (c : CauseSet) (h : c.holdPoint = false) : c.union { holdPoint := true } ≠ c := by
    rintro heq
    rw [← heq] at h
    simp [CauseSet.union] at h
  unfold State.holdNext
  rw [State.addCauses_run (by simp [hstate]) (habsent _ rfl)]
  simp [State.setCauses, CauseSet.union, ← hstate]

theorem State.runSound_skipStep {s : State} (hin : s.run.state.inRun = true) (hs : s.RunSound) :
    s.skipStep.RunSound := by
  have hresult : s.skipResult.RunSound := State.runSound_congr (by simp) hs
  have hresultin : s.skipResult.run.state.inRun = true := by simpa using hin
  have hloose := State.runLoose_advance hresultin hresult
  have hrun := State.advance_run hresultin
  unfold State.skipStep
  dsimp only
  split_ifs with hheld hend
  · exact State.runSound_finishRun hloose (by simp [hrun])
      (hloose.2.2.2.2.1 (by simp [hrun, hheld])) (by simpa using Nat.zero_lt_of_lt (hresult.2.1 hresultin))
  · have hstate : s.skipResult.advance.run.state = .held := by simp [hrun, hheld]
    have hnext := State.holdNext_run hstate
    refine State.runSound_iff.mpr ⟨State.runLoose_held (s := s.skipResult.advance) (by simp [hstate]) ?_ ?_
      (hnext.trans (by rw [← hstate])) (by simp [State.holdNext]) (by simp) hloose, fun _ => ?_⟩
    · simp [CauseSet.isEmpty_eq]
    · simp [CauseSet.hasInterlock_eq, hrun, CauseSet.others]
    · have hbelow : s.skipResult.advance.run.cursor < s.skipResult.advance.program.length := by
        simpa [State.atEnd] using hend
      simpa [hnext] using hbelow
  · exact State.runSound_advance_proceed hresultin hresult

theorem State.abortRun_run (s : State) : s.abortRun.run = { s.run with
    state := s.restState, phase := .beforeEntry, causes := {}, manualLevel := 0, manualHeat := none } := by
  unfold State.abortRun
  dsimp only
  split_ifs <;> simp [State.setCauses, State.setPhase, State.clearManual]

theorem State.runSound_abortRun {s : State} (hs : s.RunSound) : s.abortRun.RunSound := by
  obtain ⟨hidle, hready, hin⟩ := s.restState_place
  have hprogram : s.abortRun.program.length = s.program.length := by simp [Program.length]
  have hopen : s.abortRun.log.isOpen = false := by
    unfold State.abortRun
    dsimp only
    split_ifs <;> simp
  exact State.runSound_stopped (by simp [State.abortRun_run, hin]) (by simp [State.abortRun_run])
    (by simp [State.abortRun_run]) (by simp [State.abortRun_run]) (by simp [State.abortRun_run]) hopen
    (by rw [hprogram]; simpa [State.abortRun_run] using hs.1) (by rw [hprogram]; simpa [State.abortRun_run] using hidle)
    (by rw [hprogram]; simpa [State.abortRun_run] using hready)

@[simp] theorem State.setManual_run (s : State) (level : Nat) (heat : Option (Nat × Nat)) :
    (s.setManual level heat).run = { s.run with state := .manual, manualLevel := level, manualHeat := heat } := by
  simp [State.setManual]

theorem State.runSound_setManual {s : State} (level : Nat) (heat : Option (Nat × Nat))
    (hstate : s.run.state.allowsManual = true) (hs : s.RunSound) : (s.setManual level heat).RunSound := by
  have hin : s.run.state.inRun = false := by
    cases h : s.run.state <;> simp_all [RunState.inRun, RunState.allowsManual]
  obtain ⟨hcauses, hphase, hopen⟩ := hs.atRest hin
  have hcursor := hs.1
  simp only [State.RunSound, State.setManual_run, State.setManual_frame]
  simp [hcauses, hphase, hopen, hcursor, RunState.inRun, CauseSet.isEmpty_eq, CauseSet.hasInterlock_eq]

/-! ## Every rule -/

theorem inRun_of_refusesEdits {r : RunState} (h : r.refusesEdits = false) : r ≠ .config ∧ r ≠ .halted ∧ r ≠ .faulted := by
  cases r <;> simp_all [RunState.refusesEdits]

theorem runSound_putStepRule (index : Byte) (record : List Byte) {s : State} (hs : s.RunSound) :
    (putStepRule index record s).1.RunSound := by
  have hput (r : StepRecord) : s.program.length ≤ (s.program.put index.toNat r).length ∧
      0 < (s.program.put index.toNat r).length := by
    rw [Program.length_put]
    split_ifs <;> omega
  rcases putStepRule_cases index record s with heq | ⟨r, -, -, -, -, -, ⟨hidle, heq⟩ | ⟨hidle, heq⟩⟩ <;> rw [heq]
  · exact hs
  · obtain ⟨hcursor, hbelow, hphase, hheld, hinterlock, hmanual, hopen, -, hready⟩ := hs
    obtain ⟨hlength, hpos⟩ := hput r
    exact ⟨hcursor.trans hlength, fun h => (hbelow h).trans_le hlength, hphase, hheld, hinterlock, hmanual, hopen,
      fun h => absurd h hidle, fun _ => hpos⟩
  · obtain ⟨hcauses, hphase, hopen⟩ := hs.atRest (by simp [hidle, RunState.inRun])
    obtain ⟨hlevel, hheat⟩ := hs.2.2.2.2.2.1 (by simp [hidle])
    refine State.runSound_stopped (by simp [RunState.inRun]) (by simpa) (by simpa) (by simpa) (by simpa) (by simpa)
      ?_ (by simp) (fun _ => by simpa using (hput r).2)
    simpa using hs.1.trans (hput r).1

theorem RunState.whenEmptied_place (r : RunState) : (r.whenEmptied = .manual ↔ r = .manual) ∧
    r.whenEmptied ≠ .ready ∧ r.whenEmptied ≠ .done := by
  cases r <;> simp [RunState.whenEmptied]

theorem runSound_deleteStepRule (index : Byte) {s : State} (hs : s.RunSound) :
    (deleteStepRule index s).1.RunSound := by
  rcases deleteStepRule_cases index s with heq | ⟨-, hlocked, hindex, heq⟩ <;> rw [heq]
  · exact hs
  have hlength := Program.length_delete hindex
  have hbelow (hin : s.run.state.inRun = true) : s.run.cursor < s.program.length - 1 := by
    have : s.run.cursor < index.toNat := by simpa [State.lockedIndex, hin] using hlocked
    omega
  dsimp only
  split_ifs with hone hin hin
  · have := hbelow hin
    omega
  · obtain ⟨hmanual, hready, hdone⟩ := s.run.state.whenEmptied_place
    have hcursor : min s.run.cursor (s.program.length - 1) ≤ (s.program.delete index.toNat).length := by omega
    have hempty : (s.program.delete index.toNat).length = 0 := by omega
    exact State.runSound_rested hs (by simpa using hin) (by simpa using hin) (by simp [hmanual]) rfl rfl rfl rfl rfl
      hcursor (fun _ => hempty) (by simp [hready, hdone])
  · obtain ⟨-, -, hphase, hheld, hinterlock, hmanual, hopen, -, -⟩ := hs
    have hstep := hbelow hin
    refine ⟨?_, fun _ => ?_, hphase, hheld, hinterlock, hmanual, hopen, ?_, ?_⟩
    · rw [hlength]
      exact hstep.le
    · rw [hlength]
      exact hstep
    · intro (h : s.run.state = .idle)
      rw [h] at hin
      cases hin
    · intro (h : s.run.state = .ready ∨ s.run.state = .done)
      rcases h with h | h <;> rw [h] at hin <;> cases hin
  · refine State.runSound_rested hs (by simpa using hin) (by simpa using hin) (by simp) rfl rfl rfl rfl rfl ?_ ?_ ?_
    · simp [hlength]
    · intro h
      have := hs.2.2.2.2.2.2.2.1 h
      omega
    · intro _
      simp only [hlength]
      omega

theorem runSound_clearProgramRule {s : State} (hs : s.RunSound) : (clearProgramRule s).1.RunSound := by
  rcases clearProgramRule_cases s with heq | ⟨-, hin, heq⟩ <;> rw [heq]
  · exact hs
  · obtain ⟨hmanual, hready, hdone⟩ := s.run.state.whenEmptied_place
    exact State.runSound_rested hs hin (by simpa using hin) (by simp [hmanual]) (by simp) (by simp) (by simp) (by simp)
      (by simp) (by simp) (by simp [Program.reset, Program.length]) (by simp [hready, hdone])

theorem runSound_pauseRule {s : State} (hs : s.RunSound) : (pauseRule s).1.RunSound := by
  unfold pauseRule
  split_ifs
  · exact State.runSound_addCauses (by simp [CauseSet.hasInterlock_eq]) hs
  · exact hs

theorem runSound_confirmRule (step : Byte) {s : State} (hs : s.RunSound) : (confirmRule step s).1.RunSound := by
  unfold confirmRule
  split_ifs
  · exact State.runSound_latch _ hs
  · exact hs
  · exact hs

theorem runSound_startRule {s : State} (hs : s.RunSound) : (startRule s).1.RunSound := by
  unfold startRule
  split_ifs with hstate
  · exact hs
  · exact State.runSound_startRun hstate hs
  · exact hs

theorem runSound_resumeRule {s : State} (hs : s.RunSound) : (resumeRule s).1.RunSound := by
  unfold resumeRule
  split_ifs with hstate
  · exact hs
  · exact State.runSound_resumeRun hstate hs
  · exact hs

theorem runSound_skipRule {s : State} (hs : s.RunSound) : (skipRule s).1.RunSound := by
  unfold skipRule
  split_ifs with hin
  · exact State.runSound_skipStep hin hs
  · exact hs

theorem runSound_abortRule {s : State} (hs : s.RunSound) : (abortRule s).1.RunSound := by
  unfold abortRule
  split
  iterate 4 exact State.runSound_abortRun hs
  all_goals exact hs

theorem runSound_manualSetRule (level heatPresent : Byte) (target cap : Half) {s : State} (hs : s.RunSound) :
    (manualSetRule level heatPresent target cap s).1.RunSound := by
  unfold manualSetRule
  extract_lets l t c heat clamped
  split_ifs with hallows hvalue hnothing hmanual hlatch hclear
  · exact hs
  · exact hs
  · exact State.runSound_endManual hmanual hs
  · exact hs
  · exact hs
  · exact State.runSound_setManual _ _ (by simpa using hallows) hs
  · exact hs

theorem runSound_manualStopRule {s : State} (hs : s.RunSound) : (manualStopRule s).1.RunSound := by
  unfold manualStopRule
  split_ifs with hmanual
  · exact State.runSound_endManual hmanual hs
  · exact hs

theorem runSound_enterConfigRule {s : State} (hs : s.RunSound) : (enterConfigRule s).1.RunSound := by
  have hconfig (hin : s.run.state.inRun = false) (hmanual : s.run.state ≠ .manual) :
      ((s.setRunState .config).handIdle).RunSound :=
    State.runSound_rested hs hin (by simp [RunState.inRun]) (fun _ => hmanual) (by simp) (by simp) (by simp) (by simp)
      (by simp) (by simpa using hs.1) (by simp) (by simp)
  unfold enterConfigRule
  split
  case h_1 h => exact hconfig (by simp [h, RunState.inRun]) (by simp [h])
  case h_2 h => exact hconfig (by simp [h, RunState.inRun]) (by simp [h])
  case h_3 h => exact hconfig (by simp [h, RunState.inRun]) (by simp [h])
  all_goals exact hs

theorem runSound_leaveConfigRule {s : State} (hs : s.RunSound) : (leaveConfigRule s).1.RunSound := by
  refine inConfig_keeps (fun hconfig => ?_) hs
  obtain ⟨hidle, hready, hin⟩ := s.restState_place
  exact State.runSound_rested hs (by simp [hconfig, RunState.inRun]) hin (by simp [hconfig]) rfl rfl rfl rfl rfl hs.1
    hidle hready

theorem runSound_leaseArmRule (period locked : Byte) {s : State} (hs : s.RunSound) :
    (leaseArmRule period locked s).1.RunSound := by
  unfold leaseArmRule
  dsimp only
  split_ifs
  · exact hs
  · exact hs
  · exact State.runSound_examine (State.runSound_congr (s := s) (by simp) hs)

theorem runSound_leaseDisarmRule {s : State} (hs : s.RunSound) : (leaseDisarmRule s).1.RunSound := by
  unfold leaseDisarmRule
  dsimp only
  split_ifs
  · exact hs
  · exact hs
  · exact State.runSound_examine (State.runSound_congr (s := s) (by simp) hs)

theorem State.runSound_warmReset {s : State} : s.warmReset.RunSound := by
  obtain ⟨hidle, hready, hin⟩ := s.restState_place
  refine State.runSound_stopped ?_ ?_ ?_ ?_ ?_ ?_ ?_ ?_ ?_ <;>
    simp_all [State.warmReset, Run.reset, IngredientLog.cleared, Program.warm, Program.length]

theorem safetyClearRule_sameForRun (s : State) : (safetyClearRule s).1.SameForRun s := by
  unfold safetyClearRule
  split_ifs <;> simp

theorem safetyLimitRule_sameForRun (watts : Half) (s : State) : (safetyLimitRule watts s).1.SameForRun s := by
  unfold safetyLimitRule
  dsimp only
  split_ifs <;> simp

/-- The rule of every command keeps the run controller sound. -/
theorem runSound_rule {i : Instr} {rule : State → Executed} (hrule : ruleOf i = some rule) {s : State}
    (hs : s.RunSound) : (rule s).1.RunSound := by
  cases i <;> simp only [ruleOf, Option.some.injEq, reduceCtorEq] at hrule <;> subst hrule
  case pause => exact runSound_pauseRule hs
  case confirm => exact runSound_confirmRule _ hs
  case start => exact runSound_startRule hs
  case resume => exact runSound_resumeRule hs
  case skip => exact runSound_skipRule hs
  case abort => exact runSound_abortRule hs
  case putStep => exact runSound_putStepRule _ _ hs
  case deleteStep => exact runSound_deleteStepRule _ hs
  case clearProgram => exact runSound_clearProgramRule hs
  case manualSet => exact runSound_manualSetRule _ _ _ _ hs
  case manualStop => exact runSound_manualStopRule hs
  case enterConfig => exact runSound_enterConfigRule hs
  case leaveConfig => exact runSound_leaveConfigRule hs
  case warmReset => exact State.runSound_warmReset
  case leaseArm => exact runSound_leaseArmRule _ _ hs
  case leaseDisarm => exact runSound_leaseDisarmRule hs
  case safetyStop => exact State.runSound_setStopLatch hs
  case safetyClear => exact State.runSound_congr (safetyClearRule_sameForRun s) hs
  case safetyLimit => exact State.runSound_congr (safetyLimitRule_sameForRun _ s) hs
  case setAcceptance => exact inConfig_keeps (fun _ => State.runSound_congr (by simp) hs) hs
  case setService => exact inConfig_keeps (fun _ => State.runSound_congr (by simp) hs) hs
  case setBudget => exact inConfig_keeps (fun _ => State.runSound_congr (by simp) hs) hs
  case setLineFunction => exact inConfig_keeps (fun _ => State.runSound_congr (by simp) hs) hs
  case setLineFilter => exact inConfig_keeps (fun _ => State.runSound_congr (by simp) hs) hs
  case setScalePolicy => exact inConfig_keeps (fun _ => State.runSound_congr (by simp) hs) hs
  case loadScaleCalibration => exact inConfig_keeps (fun _ => State.runSound_congr (by simp) hs) hs
  case loadHeaterData => exact inConfig_keeps (fun _ => State.runSound_congr (by simp) hs) hs
  case loadThermistorTableFirst => exact inConfig_keeps (fun _ => State.runSound_congr (by simp) hs) hs
  case loadThermistorTableSecond => exact inConfig_keeps (fun _ => State.runSound_congr (by simp) hs) hs
  all_goals exact State.runSound_congr (by simp) hs

/-! ## Every event -/

theorem State.runSound_answerStall {s : State} (hs : s.RunSound) : s.answerStall.RunSound := by
  unfold State.answerStall
  split
  case h_1 => exact State.runSound_addCauses (by simp [CauseSet.hasInterlock_eq]) hs
  case h_2 hmanual =>
    split_ifs
    · obtain ⟨hcursor, hbelow, hphase, hheld, hinterlock, -, hopen, hidle, hready⟩ := hs
      refine State.runSound_congr (s := { s with run := { s.run with manualLevel := 0 } }) (by simp) ?_
      exact ⟨hcursor, hbelow, hphase, hheld, hinterlock, fun h => absurd hmanual h, hopen, hidle, hready⟩
    · exact State.runSound_endManual hmanual hs
  all_goals exact hs

theorem State.runSound_testTemp {s : State} (hs : s.RunSound) : s.testTemp.RunSound := by
  unfold State.testTemp
  split
  · split_ifs
    · exact State.runSound_latch _ hs
    · exact hs
  · exact hs

theorem State.runSound_testWeight {s : State} (hs : s.RunSound) : s.testWeight.RunSound := by
  unfold State.testWeight
  split
  · split_ifs
    · exact State.runSound_latch _ hs
    · exact hs
  · exact hs

theorem IngredientLog.take_isOpen (log : IngredientLog) (c : LogContext) (m : Int) :
    (log.take c m).1.isOpen = log.isOpen := by
  unfold IngredientLog.take
  split
  · rfl
  · split
    · rfl
    · dsimp only
      split_ifs <;> rfl

theorem State.serveLog_isOpen (s : State) : s.serveLog.log.isOpen = s.log.isOpen := by
  have hlog (m : Int) : (s.logSettled m).log.isOpen = s.log.isOpen := by
    unfold State.logSettled
    dsimp only
    split_ifs
    · split <;> simp [IngredientLog.take_isOpen]
    · rfl
  unfold State.serveLog
  split
  · exact hlog _
  · rfl

theorem State.runSound_validSample {s : State} (codes : List (Tri × Tri)) (hs : s.RunSound) :
    (s.validSample codes).RunSound := by
  refine State.runSound_testWeight (State.runSound_congr (s := s) ?_ hs)
  simp [State.serveLog_isOpen]

theorem State.runSound_sampleLine {s : State} (l : SlowLine) (level : Bool) (hs : s.RunSound) :
    (s.sampleLine l level).RunSound := by
  unfold State.sampleLine
  dsimp only
  split_ifs
  · exact hs
  · exact State.runSound_examine (State.runSound_congr (s := s) (by simp) hs)

theorem State.runSound_baseReading {s : State} (r : Reading) (hs : s.RunSound) : (s.baseReading r).RunSound := by
  unfold State.baseReading
  dsimp only
  split_ifs
  · exact State.runSound_examine (State.runSound_congr (s := s) (by simp) hs)
  · exact State.runSound_examine (State.runSound_congr (s := s) (by simp) hs)

theorem State.runSound_setMains {s : State} (m : MainsState) (hs : s.RunSound) : (s.setMains m).RunSound := by
  unfold State.setMains
  dsimp only
  split_ifs
  · exact hs
  · exact State.runSound_examine (State.runSound_congr (s := s) (by simp) hs)
  · exact State.runSound_examine (State.runSound_congr (s := s) (by simp) hs)

theorem State.runSound_deliver {s : State} (channel : Channel) (live : Bool) (code : Nat) (hs : s.RunSound) :
    (s.deliver channel live code).RunSound := by
  cases channel with
  | mains =>
    unfold State.deliver State.mainsReading
    dsimp only
    split_ifs
    · exact State.runSound_setMains _ (State.runSound_congr (s := s) (by simp) hs)
    · exact hs
  | base => exact State.runSound_baseReading _ hs
  | element => exact State.runSound_congr (s := s) (by simp [State.deliver]) hs
  | cell => exact State.runSound_congr (s := s) (by simp [State.deliver]) hs
  | motorI =>
    obtain ⟨power, hpower⟩ := s.motorReading_eq code
    exact State.runSound_congr (s := s) (by simp [State.deliver, hpower]) hs

theorem State.runSound_beginCycle {s : State} (hs : s.RunSound) : s.beginCycle.RunSound := by
  have hgrant {s : State} (hs : s.RunSound) : s.grantWindow.RunSound :=
    State.runSound_congr (s := s) (by simp [State.grantWindow]) hs
  have hstart {s : State} (hs : s.RunSound) : s.startWindow.RunSound :=
    hgrant (State.runSound_testTemp (State.runSound_congr (s := s) (by simp) hs))
  unfold State.beginCycle
  split
  · split_ifs
    · exact State.runSound_congr (s := s) (by simp) hs
    · exact hstart (State.runSound_congr (s := s) (by simp [State.endWindow]) hs)
  · exact hstart hs

theorem State.runSound_endRest {s : State} (hs : s.RunSound) : s.endRest.RunSound :=
  State.runSound_congr (by simp) hs

theorem State.runSound_arbitrate {s : State} (hs : s.RunSound) : s.arbitrate.RunSound :=
  State.runSound_congr (by simp) hs

theorem State.powerOn_runSound (a n : Bool) : (State.powerOn a n).RunSound := by
  cases a <;> cases n <;> decide

/-- Every event keeps the run controller sound. -/
theorem runSound_event {i : Instr} (hi : ruleOf i = none) {s t : State} (ht : exec i s = .next t)
    (hs : s.RunSound) : t.RunSound := by
  by_cases hplain : isPlain i = true
  · exact State.runSound_congr (by simp [samePlainly_of_isPlain hplain ht]) hs
  have hquiet {u : State} (h : u.SameForRun s) : u.RunSound := State.runSound_congr h hs
  cases i <;> simp only [ruleOf, isPlain, reduceCtorEq, not_true_eq_false] at hi hplain <;>
    obtain rfl := Host.Outcome.next.inj ht
  case powerOnReset a n => exact State.runSound_congr (by simp) (State.powerOn_runSound a n)
  case lineFilterSample =>
    exact State.runSound_sampleLine _ _ (State.runSound_sampleLine _ _ (State.runSound_sampleLine _ _ (hquiet (by simp))))
  case stopNAsserted => exact State.runSound_setStopLatch (hquiet (by simp))
  case stopNReleased => exact hquiet (by simp)
  case timeDone =>
    split_ifs
    · exact State.runSound_latch _ hs
    · exact hs
  case overdue =>
    split_ifs
    · exact State.runSound_addCauses (by simp [CauseSet.hasInterlock_eq]) (hquiet (by simp))
    · exact hs
  case stall =>
    split
    · exact State.runSound_endRest (State.runSound_answerStall (hquiet (by simp)))
    · exact hs
  case conversionComplete =>
    split
    · exact State.runSound_arbitrate (State.runSound_deliver _ _ _ (hquiet (by simp)))
    · exact hs
  case scaleBurstComplete =>
    split
    · dsimp only
      refine State.runSound_arbitrate ?_
      split_ifs
      · exact hquiet (by simp [State.saturatedSample])
      · exact State.runSound_validSample _ (hquiet (by simp))
    · exact hs
  case tareForced =>
    split
    · exact hquiet (by simp)
    · exact hs
  case mainsZeroCrossing =>
    split
    · dsimp only
      split_ifs
      · exact State.runSound_beginCycle (hquiet (by simp))
      · exact hquiet (by simp)
    · exact hquiet (by simp)
  case mainsLossTimeout =>
    split
    · exact State.runSound_setMains _ (hquiet (by simp [State.abandonWindow]))
    · exact hs
  case leaseTick =>
    split_ifs
    · dsimp only
      split_ifs
      · exact hquiet (by simp)
      · exact State.runSound_lapse (hquiet (by simp))
    · exact hs
  case leaseLapse =>
    split_ifs
    · exact State.runSound_lapse (hquiet (by simp))
    · exact hs
  case lockedLeaseLapse =>
    split_ifs
    · exact State.runSound_lapse (hquiet (by simp))
    · exact hs

/-- A promise that reads neither bus nor queue, kept by every rule and by every event, is kept by every step. -/
theorem kept_by_step {P : State → Prop} (hrule : ∀ {i rule}, ruleOf i = some rule → ∀ {s}, P s → P (rule s).1)
    (hevent : ∀ {i}, ruleOf i = none → ∀ {s t}, exec i s = .next t → P s → P t)
    (hbus : ∀ {s : State} b, P s → P { s with bus := b })
    (hpending : ∀ {s : State} l, P s → P { s with pending := l }) {s t : State} (ht : step s = .next t) (hs : P s) :
    P t := by
  rcases step_cases ht with rfl | ⟨i, rest, hexec⟩
  · exact hs
  cases hi : ruleOf i with
  | none => exact hevent hi hexec (hpending rest hs)
  | some rule =>
    obtain ⟨b, -, rfl | ⟨p, code, r, rfl⟩ | ⟨p, code, r, rfl⟩⟩ := exec_command_cases hi hexec
    · exact hpending rest hs
    · exact hbus _ (hbus b (hpending rest hs))
    · exact hbus _ (hrule hi (hbus b (hpending rest hs)))

/-- Settles O6: every operation of the run controller keeps it sound, and everything else leaves what it reads. -/
theorem stepKeepsRunSound : Obligations.StepKeepsRunSound :=
  fun _ _ ht hs => kept_by_step runSound_rule runSound_event (fun _ h => h) (fun _ h => h) ht hs

end Sys2Proof.Machine
end

section
/-! SUPPORT. A part that is neither in a run nor in MANUAL: what the run controller's operations leave of it, and the
safety block over every step (R43 to R45, R151 to R164). -/

namespace Sys2Proof.Machine

/-! ## Outside a run and MANUAL -/

theorem RunState.not_inRun_of_not_halts {r : RunState} (h : r.halts = false) : r.inRun = false ∧ r ≠ .manual := by
  cases r <;> simp_all [RunState.halts, RunState.inRun]

section Stopped
variable {s : State} (h : s.run.state.halts = false)
include h

theorem State.addCauses_of_stopped (c : CauseSet) : s.addCauses c = s :=
  State.addCauses_of_idle (RunState.not_inRun_of_not_halts h).1

theorem State.examine_of_stopped : s.examine = s :=
  State.examine_of_other (RunState.not_inRun_of_not_halts h).1 fun hmanual =>
    absurd hmanual (RunState.not_inRun_of_not_halts h).2

theorem State.activeRecord_of_stopped : s.activeRecord = none := by
  simp [State.activeRecord, State.stepActive, (RunState.not_inRun_of_not_halts h).1]

theorem State.latch_of_stopped (c : Condition) : s.latch c = s := by
  simp [State.latch, State.activeRecord_of_stopped h]

theorem State.testTemp_of_stopped : s.testTemp = s := by
  simp [State.testTemp, State.activeRecord_of_stopped h]

theorem State.testWeight_of_stopped : s.testWeight = s := by
  simp [State.testWeight, State.activeRecord_of_stopped h]

theorem State.answerStall_of_stopped : s.answerStall = s := by
  unfold State.answerStall
  split <;> simp_all [RunState.halts]

theorem State.validSample_state (codes : List (Tri × Tri)) : (s.validSample codes).run.state = s.run.state := by
  unfold State.validSample
  dsimp only
  rw [State.testWeight_of_stopped (by simpa using h)]
  simp

theorem State.setMains_state (m : MainsState) : (s.setMains m).run.state = s.run.state := by
  unfold State.setMains
  dsimp only
  split_ifs
  · rfl
  all_goals
    rw [State.examine_of_stopped (by simpa using h)]
    simp

theorem State.deliver_state (channel : Channel) (live : Bool) (code : Nat) :
    (s.deliver channel live code).run.state = s.run.state := by
  have hexamine {u : State} (hu : u.run.state = s.run.state) : u.examine.run.state = s.run.state := by
    rw [State.examine_of_stopped (by rwa [hu]), hu]
  cases channel with
  | mains =>
    unfold State.deliver State.mainsReading
    dsimp only
    split_ifs
    · rw [State.setMains_state (by simpa using h)]
    · rfl
  | base =>
    unfold State.deliver State.baseReading
    dsimp only
    split_ifs <;> simp [hexamine]
  | element => simp [State.deliver]
  | cell => simp [State.deliver]
  | motorI =>
    obtain ⟨power, hpower⟩ := s.motorReading_eq code
    simp [State.deliver, hpower]

theorem State.sampleLine_state (l : SlowLine) (level : Bool) : (s.sampleLine l level).run.state = s.run.state := by
  unfold State.sampleLine
  dsimp only
  split_ifs
  · rfl
  · rw [State.examine_of_stopped (by simpa using h)]
    simp

theorem State.beginCycle_state : s.beginCycle.run.state = s.run.state := by
  have hstart {u : State} (hu : u.run.state = s.run.state) : u.startWindow.run.state = s.run.state := by
    simp [State.startWindow, State.grantWindow]
    rw [State.testTemp_of_stopped (by simp [hu, h])]
    simp [hu]
  unfold State.beginCycle
  split
  · split_ifs
    · rfl
    · exact hstart (by simp [State.endWindow])
  · exact hstart rfl

theorem State.setStopLatch_of_stopped : s.setStopLatch.run.state = s.run.state := by
  unfold State.setStopLatch
  dsimp only
  split_ifs <;> simp_all

theorem State.lapse_of_stopped : s.lapse.run.state = if s.safety.locked then .faulted else s.run.state := by
  unfold State.lapse
  dsimp only
  split_ifs <;> simp_all [State.enterFaulted]

/-- An event leaves the run state outside a run and MANUAL, but for a reset and for the lapse of a locked lease. -/
theorem event_state_of_stopped {i : Instr} (hi : ruleOf i = none) {t : State} (ht : exec i s = .next t) :
    t.run.state = s.run.state ∨ (∃ a n, i = .powerOnReset a n) ∨
    (t.run.state = .faulted ∧ s.leaseLive = true ∧ s.safety.locked = true) := by
  by_cases hplain : isPlain i = true
  · exact .inl (samePlainly_of_isPlain hplain ht).2.1
  cases i <;> simp only [ruleOf, isPlain, reduceCtorEq, not_true_eq_false] at hi hplain <;>
    obtain rfl := Host.Outcome.next.inj ht
  case powerOnReset a n => exact .inr (.inl ⟨a, n, rfl⟩)
  case leaseTick =>
    split_ifs with hlive
    · dsimp only
      split_ifs
      · exact .inl rfl
      · by_cases hlocked : s.safety.locked = true
        · exact .inr (.inr ⟨by simp [State.lapse_of_stopped (s := s.reach _) h, hlocked], hlive, hlocked⟩)
        · exact .inl (by simp [State.lapse_of_stopped (s := s.reach _) h, hlocked])
    · exact .inl rfl
  case leaseLapse =>
    split_ifs with hdue
    · have hlocked : s.safety.locked = false := by
        simp only [State.lapseDue, Bool.and_eq_true, decide_eq_true_eq] at hdue
        exact hdue.1.2
      exact .inl (by simp [State.lapse_of_stopped (s := s.reach _) h, hlocked])
    · exact .inl rfl
  case lockedLeaseLapse =>
    split_ifs with hdue
    · simp only [State.lapseDue, Bool.and_eq_true, decide_eq_true_eq] at hdue
      obtain ⟨⟨hlive, hlocked⟩, -⟩ := hdue
      exact .inr (.inr ⟨by simp [State.lapse_of_stopped (s := s.reach _) h, hlocked], hlive, hlocked⟩)
    · exact .inl rfl
  all_goals left
  case lineFilterSample =>
    have hsample {u : State} (hu : u.run.state = s.run.state) (l : SlowLine) (level : Bool) :
        (u.sampleLine l level).run.state = s.run.state := by
      rw [State.sampleLine_state (by rwa [hu]), hu]
    exact hsample (hsample (hsample (by simp) _ _) _ _) _ _
  case stopNAsserted =>
    rw [State.setStopLatch_of_stopped (by simpa using h)]
    simp
  case stopNReleased => rfl
  case timeDone =>
    split_ifs
    · rw [State.latch_of_stopped h]
    · rfl
  case overdue =>
    split_ifs
    · rw [State.addCauses_of_stopped (by simpa using h)]
    · rfl
  case stall =>
    split
    · dsimp only
      rw [State.answerStall_of_stopped (by simpa using h)]
      simp
    · rfl
  case conversionComplete =>
    split
    · simp only [State.arbitrate_run]
      rw [State.deliver_state (by simpa using h)]
      simp
    · rfl
  case scaleBurstComplete =>
    split
    · dsimp only
      split_ifs
      · rfl
      · simp only [State.arbitrate_run]
        rw [State.validSample_state (by simpa using h)]
        simp
    · rfl
  case tareForced => split <;> simp
  case mainsZeroCrossing =>
    split
    · dsimp only
      split_ifs
      · rw [State.beginCycle_state (by simpa using h)]
        simp
      · rfl
    · rfl
  case mainsLossTimeout =>
    split
    · dsimp only
      rw [State.setMains_state (by simpa [State.abandonWindow] using h)]
      simp [State.abandonWindow]
    · rfl

end Stopped

/-- A field that a CONFIG-class rule leaves in CONFIG, it leaves. -/
theorem inConfig_field {β : Type} (field : State → β) {rule : State → Executed} {s : State}
    (h : field (rule s).1 = field s) : field (inConfig rule s).1 = field s :=
  inConfig_keeps (P := fun u => field u = field s) (fun _ => h) rfl

/-! ## HALTED and FAULTED are left by their commands -/

/-- In HALTED and FAULTED no rule but ABORT's and WARM RESET's changes the run state (R44, R45). -/
theorem rule_state_of_halted {i : Instr} {rule : State → Executed} (hi : ruleOf i = some rule) {s : State}
    (h : s.run.state = .halted ∨ s.run.state = .faulted) (habort : s.run.state = .halted → ∀ p, i ≠ .abort p)
    (hwarm : ∀ p, i ≠ .warmReset p) : (rule s).1.run.state = s.run.state := by
  have hstopped : s.run.state.halts = false := by rcases h with h | h <;> simp [h, RunState.halts]
  have hin : s.run.state.inRun = false := (RunState.not_inRun_of_not_halts hstopped).1
  have hconfig (rule : State → Executed) : inConfig rule s = refuse s .refusedState :=
    if_neg (by rcases h with h | h <;> simp [h])
  have hedits : s.run.state.refusesEdits = true := by rcases h with h | h <;> simp [h, RunState.refusesEdits]
  cases i <;> simp only [ruleOf, Option.some.injEq, reduceCtorEq] at hi <;> subst hi
  case warmReset p => exact absurd rfl (hwarm p)
  case pause => simp [pauseRule, hin]
  case confirm => simp [confirmRule, hin]
  case start => rcases h with h | h <;> simp [startRule, h]
  case resume => rcases h with h | h <;> simp [resumeRule, h]
  case skip => simp [skipRule, hin]
  case abort p =>
    rcases h with h | h
    · exact absurd rfl (habort h p)
    · simp [abortRule, h]
  case putStep => simp [putStepRule, hedits]
  case deleteStep => simp [deleteStepRule, hedits]
  case clearProgram => simp [clearProgramRule, hedits]
  case manualSet => rcases h with h | h <;> simp [manualSetRule, h, RunState.allowsManual]
  case manualStop => rcases h with h | h <;> simp [manualStopRule, h]
  case enterConfig => rcases h with h | h <;> simp [enterConfigRule, h]
  case leaveConfig => simp [leaveConfigRule, hconfig]
  case leaseArm =>
    simp only [clearsKey_fst, leaseArmRule]
    split_ifs
    · rfl
    · rfl
    · simp [State.armLease, State.examine_of_stopped, hstopped]
  case leaseDisarm =>
    simp only [clearsKey_fst, leaseDisarmRule]
    split_ifs
    · rfl
    · rfl
    · simp [State.disarmLease, State.examine_of_stopped, hstopped]
  case safetyStop => exact State.setStopLatch_of_stopped hstopped
  case safetyClear => exact (safetyClearRule_sameForRun s).1
  case safetyLimit => exact (safetyLimitRule_sameForRun _ s).1
  all_goals simp [hconfig]

/-- Settles O13: no rule but ABORT's and the resets' leaves the two states, and no event but the lapse of a locked
lease. -/
theorem stoppedStatesAreLeftByTheirCommands : Obligations.StoppedStatesAreLeftByTheirCommands := by
  have hkeeps {i : Instr} {s t : State} (ht : exec i s = .next t)
      (h : s.run.state = .halted ∨ s.run.state = .faulted) (habort : s.run.state = .halted → ∀ p, i ≠ .abort p)
      (hwarm : ∀ p, i ≠ .warmReset p) (hpower : ∀ a n, i ≠ .powerOnReset a n) :
      t.run.state = s.run.state ∨ (t.run.state = .faulted ∧ s.leaseLive = true ∧ s.safety.locked = true) := by
    cases hi : ruleOf i with
    | none =>
      rcases event_state_of_stopped (by rcases h with h | h <;> simp [h, RunState.halts]) hi ht with
        hstate | ⟨a, n, heq⟩ | hlapse
      · exact .inl hstate
      · exact absurd heq (hpower a n)
      · exact .inr hlapse
    | some rule =>
      left
      obtain ⟨b, -, rfl | ⟨p, code, r, rfl⟩ | ⟨p, code, r, rfl⟩⟩ := exec_command_cases hi ht
      · rfl
      · rfl
      · exact rule_state_of_halted (s := { s with bus := b }) hi h habort hwarm
  refine ⟨fun i s t ht h hwarm hpower => ?_, fun i s t ht h habort hwarm hpower => ?_⟩
  · rcases hkeeps ht (.inr h) (by simp [h]) hwarm hpower with hstate | ⟨hfaulted, -⟩
    · rw [hstate, h]
    · exact hfaulted
  · rcases hkeeps ht (.inl h) (fun _ => habort) hwarm hpower with hstate | hlapse
    · exact .inl (by rw [hstate, h])
    · exact .inr hlapse

/-! ## The safety block -/

/-- What `State.SafetySound` says of the safety block alone. -/
structure Safety.Sound (f : Safety) : Prop where
  latch : f.stopN = true → f.stopLatch = true
  live : f.lease = .live → within 1 80 f.count
  ended : f.lease ≠ .live → f.count = 0
  period : within 5 80 f.period
  heatPermit : f.heatPermit.count ≤ 2
  motionPermit : f.motionPermit.count ≤ 2
  lidClosed : f.lidClosed.count ≤ 2
  limit : within 100 2000 f.limit
  interval : f.interval = 1 ∨ f.interval = 4 ∨ f.interval = 16

/-- No run and no manual operation under the stop latch (R154). -/
abbrev State.LatchStops (s : State) : Prop := s.safety.stopLatch = true → s.run.state.halts = false

theorem State.safetySound_iff {s : State} : s.SafetySound ↔ s.safety.Sound ∧ s.LatchStops := by
  constructor
  · rintro ⟨hlatch, hstops, hlive, hended, hperiod, hheat, hmotion, hlid, hlimit, hinterval⟩
    exact ⟨⟨hlatch, hlive, hended, hperiod, hheat, hmotion, hlid, hlimit, hinterval⟩, hstops⟩
  · rintro ⟨⟨hlatch, hlive, hended, hperiod, hheat, hmotion, hlid, hlimit, hinterval⟩, hstops⟩
    exact ⟨hlatch, hstops, hlive, hended, hperiod, hheat, hmotion, hlid, hlimit, hinterval⟩

/-! ### What the operations leave of the block -/

@[simp] theorem State.setStopLatch_safety (s : State) : s.setStopLatch.safety = { s.safety with stopLatch := true } := by
  unfold State.setStopLatch
  dsimp only
  split_ifs with hset
  · rw [← hset]
  · simp
  · simp

@[simp] theorem State.lapse_safety (s : State) :
    s.lapse.safety = { s.safety with lease := .lapsed, count := 0, keySequence := false } := by
  unfold State.lapse
  dsimp only
  split_ifs <;> simp

@[simp] theorem State.sampleLine_safety (s : State) (l : SlowLine) (level : Bool) :
    (s.sampleLine l level).safety = s.safety.setLine l ((s.safety.line l).sample level) := by
  unfold State.sampleLine
  dsimp only
  split_ifs <;> simp

@[simp] theorem State.armLease_safety (s : State) (period : Nat) (locked : Bool) :
    (s.armLease period locked).safety = { s.safety with
      lease := .live, period := period, locked := locked, count := period, leaseDue := s.now + leaseTime } := by
  simp [State.armLease, State.loadLease]

@[simp] theorem State.disarmLease_safety (s : State) :
    s.disarmLease.safety = { s.safety with lease := .unarmed, count := 0, locked := false } := by
  simp [State.disarmLease]

theorem Filtered.count_sample {f : Filtered} (level : Bool) : (f.sample level).count ≤ 2 := by
  unfold Filtered.sample
  split_ifs <;> simp
  omega

theorem Safety.Sound.setLine {f : Safety} (hf : f.Sound) {l : SlowLine} {x : Filtered} (hx : x.count ≤ 2) :
    (f.setLine l x).Sound := by
  obtain ⟨hlatch, hlive, hended, hperiod, hheat, hmotion, hlid, hlimit, hinterval⟩ := hf
  cases l
  · exact ⟨hlatch, hlive, hended, hperiod, hx, hmotion, hlid, hlimit, hinterval⟩
  · exact ⟨hlatch, hlive, hended, hperiod, hheat, hx, hlid, hlimit, hinterval⟩
  · exact ⟨hlatch, hlive, hended, hperiod, hheat, hmotion, hx, hlimit, hinterval⟩

theorem State.sampleLine_sound {s : State} {l : SlowLine} {level : Bool} (hs : s.safety.Sound) :
    (s.sampleLine l level).safety.Sound := by
  rw [State.sampleLine_safety]
  exact hs.setLine (Filtered.count_sample level)

theorem Safety.Sound.lapsed {f : Safety} (hf : f.Sound) (lease : LeaseState) (locked key : Bool)
    (hlease : lease ≠ .live) :
    Safety.Sound { f with lease := lease, count := 0, locked := locked, keySequence := key } := by
  obtain ⟨hlatch, -, -, hperiod, hheat, hmotion, hlid, hlimit, hinterval⟩ := hf
  exact ⟨hlatch, fun h => absurd h hlease, fun _ => rfl, hperiod, hheat, hmotion, hlid, hlimit, hinterval⟩

theorem Safety.Sound.latched {f : Safety} (hf : f.Sound) (stopN : Bool) :
    Safety.Sound { f with stopN := stopN, stopLatch := true } := by
  obtain ⟨-, hlive, hended, hperiod, hheat, hmotion, hlid, hlimit, hinterval⟩ := hf
  exact ⟨fun _ => rfl, hlive, hended, hperiod, hheat, hmotion, hlid, hlimit, hinterval⟩

theorem Safety.reset_sound (stopN : Bool) : (Safety.reset stopN).Sound := by
  cases stopN <;> constructor <;> decide

theorem clampNat_within {lo hi : Nat} (h : lo ≤ hi) (x : Nat) : within lo hi (clampNat lo hi x) := by
  unfold clampNat
  split_ifs <;> omega

/-! ### Every event -/

/-- The events that act on the safety block. -/
def actsOnSafety : Instr → Bool
  | .powerOnReset .. | .lineFilterSample .. | .stopNAsserted .. | .stopNReleased .. | .leaseTick | .leaseLapse
  | .lockedLeaseLapse => true
  | _ => false

@[simp] theorem State.deliver_safety (s : State) (channel : Channel) (live : Bool) (code : Nat) :
    (s.deliver channel live code).safety = s.safety := by
  cases channel with
  | mains =>
    unfold State.deliver State.mainsReading State.setMains
    dsimp only
    split_ifs <;> simp
  | motorI =>
    obtain ⟨power, hpower⟩ := s.motorReading_eq code
    simp [State.deliver, hpower]
  | _ => simp [State.deliver]

@[simp] theorem State.beginCycle_safety (s : State) : s.beginCycle.safety = s.safety := by
  unfold State.beginCycle
  split
  · split_ifs <;> simp [State.startWindow, State.grantWindow, State.endWindow]
  · simp [State.startWindow, State.grantWindow]

/-- Every other event leaves the safety block. -/
theorem event_safety {i : Instr} (hi : ruleOf i = none) (hacts : actsOnSafety i = false) {s t : State}
    (ht : exec i s = .next t) : t.safety = s.safety := by
  by_cases hplain : isPlain i = true
  · simp [samePlainly_of_isPlain hplain ht]
  cases i <;> simp only [ruleOf, isPlain, actsOnSafety, reduceCtorEq, not_true_eq_false] at hi hplain hacts <;>
    obtain rfl := Host.Outcome.next.inj ht
  case mainsZeroCrossing =>
    split
    · dsimp only
      split_ifs <;> simp
    · rfl
  case mainsLossTimeout =>
    split
    · unfold State.setMains
      dsimp only
      split_ifs <;> simp [State.abandonWindow]
    · rfl
  case scaleBurstComplete =>
    split
    · dsimp only
      split_ifs <;> simp [State.saturatedSample]
    · rfl
  all_goals split <;> simp

theorem safetySound_event {i : Instr} (hi : ruleOf i = none) {s t : State} (ht : exec i s = .next t)
    (hs : s.safety.Sound) : t.safety.Sound := by
  by_cases hacts : actsOnSafety i = true
  swap
  · rwa [event_safety hi (by simpa using hacts) ht]
  cases i <;> simp only [actsOnSafety, Bool.false_eq_true] at hacts <;> obtain rfl := Host.Outcome.next.inj ht
  case powerOnReset a n => exact Safety.reset_sound n
  case lineFilterSample =>
    have hdue : Safety.Sound { s.safety with samplerDue := s.safety.samplerDue + Config.ms s.safety.interval } :=
      ⟨hs.latch, hs.live, hs.ended, hs.period, hs.heatPermit, hs.motionPermit, hs.lidClosed, hs.limit, hs.interval⟩
    refine State.sampleLine_sound (State.sampleLine_sound (State.sampleLine_sound ?_))
    exact hdue
  case stopNAsserted => simpa using hs.latched true
  case stopNReleased =>
    exact ⟨by simp, hs.live, hs.ended, hs.period, hs.heatPermit, hs.motionPermit, hs.lidClosed, hs.limit, hs.interval⟩
  case leaseTick =>
    split_ifs with hlive
    · dsimp only
      split_ifs with hcount
      · refine ⟨hs.latch, fun h => ?_, fun h => absurd ?_ h, hs.period, hs.heatPermit, hs.motionPermit,
          hs.lidClosed, hs.limit, hs.interval⟩
        · have := hs.live h
          simp at hcount ⊢
          omega
        · simpa [State.leaseLive] using hlive
      · simpa using hs.lapsed .lapsed s.safety.locked false (by simp)
    · exact hs
  case leaseLapse =>
    split_ifs
    · simpa using hs.lapsed .lapsed s.safety.locked false (by simp)
    · exact hs
  case lockedLeaseLapse =>
    split_ifs
    · simpa using hs.lapsed .lapsed s.safety.locked false (by simp)
    · exact hs

/-- An event that finds the latch set finds no run, and leaves none. -/
theorem latchStops_event {i : Instr} (hi : ruleOf i = none) {s t : State} (ht : exec i s = .next t)
    (hs : s.LatchStops) : t.LatchStops := by
  have hkept (hstopped : s.run.state.halts = false) : t.run.state.halts = false := by
    rcases event_state_of_stopped hstopped hi ht with hstate | ⟨a, n, rfl⟩ | ⟨hfaulted, -⟩
    · rwa [hstate]
    · obtain rfl := Host.Outcome.next.inj ht
      rfl
    · simp [hfaulted, RunState.halts]
  by_cases hlatch : t.safety.stopLatch = s.safety.stopLatch
  · exact fun hset => hkept (hs (by rwa [hlatch] at hset))
  by_cases hacts : actsOnSafety i = true
  swap
  · exact absurd (by rw [event_safety hi (by simpa using hacts) ht]) hlatch
  cases i <;> simp only [actsOnSafety, Bool.false_eq_true] at hacts <;> obtain rfl := Host.Outcome.next.inj ht
  case powerOnReset a n => exact fun _ => rfl
  case stopNAsserted =>
    intro _
    unfold State.setStopLatch
    dsimp only
    split_ifs with hset
    · exact hs hset
    · simp [State.enterHalted, RunState.halts]
    · simp_all
  case lineFilterSample heat motion lid =>
    refine absurd ?_ hlatch
    have hline (f : Safety) (l : SlowLine) (x : Filtered) : (f.setLine l x).stopLatch = f.stopLatch := by
      cases l <;> rfl
    simp [hline]
  case stopNReleased => exact absurd rfl hlatch
  case leaseTick =>
    refine absurd ?_ hlatch
    split_ifs
    · dsimp only
      split_ifs <;> simp
    · rfl
  all_goals
    refine absurd ?_ hlatch
    split_ifs
    · simp
    · rfl

/-! ### Every rule -/

theorem Safety.Sound.warm (f : Safety) (hf : f.Sound) : f.warm.Sound := by
  obtain ⟨-, -, -, -, hheat, hmotion, hlid, -, hinterval⟩ := hf
  exact ⟨fun h => h, by simp [Safety.warm], by simp [Safety.warm], by simp [Safety.warm, within], hheat, hmotion,
    hlid, by simp [Safety.warm, within], hinterval⟩

/-- The commands that act on the safety block. -/
def commandsSafety : Instr → Bool
  | .setLineFilter .. | .warmReset .. | .leaseArm .. | .leaseKeyA .. | .leaseKeyB .. | .leaseDisarm ..
  | .safetyStop .. | .safetyClear .. | .safetyLimit .. => true
  | _ => false

/-- Every other command leaves the safety block. -/
theorem rule_safety {i : Instr} {rule : State → Executed} (hi : ruleOf i = some rule)
    (hacts : commandsSafety i = false) (s : State) : (rule s).1.safety = s.safety := by
  cases i <;> simp only [ruleOf, commandsSafety, Option.some.injEq, reduceCtorEq] at hi hacts <;> subst hi
  case putStep =>
    rcases putStepRule_cases _ _ s with heq | ⟨r, -, -, -, -, -, ⟨-, heq⟩ | ⟨-, heq⟩⟩ <;> rw [heq]
    simp
  case deleteStep =>
    rcases deleteStepRule_cases _ s with heq | ⟨-, -, -, heq⟩ <;> rw [heq]
    dsimp only
    split_ifs <;> simp
  case clearProgram => rcases clearProgramRule_cases s with heq | ⟨-, -, heq⟩ <;> simp [heq]
  case abort =>
    simp only [abortRule]
    split <;> simp [runReply]
  case enterConfig =>
    simp only [enterConfigRule]
    split <;> simp [runReply]
  case manualSet =>
    simp only [manualSetRule]
    split_ifs <;> simp [runReply]
  case pause =>
    simp only [pauseRule]
    split_ifs <;> simp [runReply]
  case confirm =>
    simp only [confirmRule]
    split_ifs <;> simp
  case start =>
    simp only [startRule]
    split_ifs <;> simp [runReply]
  case resume =>
    simp only [resumeRule]
    split_ifs <;> simp [runReply]
  case skip =>
    simp only [skipRule]
    split_ifs <;> simp [runReply]
  case manualStop =>
    simp only [manualStopRule]
    split_ifs <;> simp [runReply]
  case leaveConfig =>
    simp only [leaveConfigRule, inConfig]
    split_ifs <;> simp [runReply]
  case setAcceptance => exact inConfig_field State.safety (by simp)
  case setService => exact inConfig_field State.safety (by simp)
  case setBudget => exact inConfig_field State.safety (by simp)
  case setLineFunction => exact inConfig_field State.safety (by simp)
  case setScalePolicy => exact inConfig_field State.safety (by simp)
  case loadScaleCalibration => exact inConfig_field State.safety (by simp)
  case loadHeaterData => exact inConfig_field State.safety (by simp)
  case loadThermistorTableFirst => exact inConfig_field State.safety (by simp)
  case loadThermistorTableSecond => exact inConfig_field State.safety (by simp)
  all_goals simp

theorem safetySound_rule {i : Instr} {rule : State → Executed} (hi : ruleOf i = some rule) {s : State}
    (hs : s.safety.Sound) : (rule s).1.safety.Sound := by
  have hkey {f : Safety} (hf : f.Sound) (key : Bool) : Safety.Sound { f with keySequence := key } :=
    ⟨hf.latch, hf.live, hf.ended, hf.period, hf.heatPermit, hf.motionPermit, hf.lidClosed, hf.limit, hf.interval⟩
  by_cases hacts : commandsSafety i = true
  swap
  · rwa [rule_safety hi (by simpa using hacts)]
  cases i <;> simp only [commandsSafety, Bool.false_eq_true] at hacts <;>
    simp only [ruleOf, Option.some.injEq] at hi <;> subst hi
  case leaseKeyA => exact hkey hs true
  case safetyStop => exact hkey (by simpa [safetyStopRule] using hs.latched s.safety.stopN) false
  case warmReset => simpa [warmResetRule, State.warmReset] using Safety.Sound.warm _ hs
  case setLineFilter interval =>
    refine inConfig_keeps (P := fun u => u.safety.Sound) (fun _ => ?_) hs
    unfold setLineFilterRule
    dsimp only
    split_ifs with hinterval
    · exact ⟨hs.latch, hs.live, hs.ended, hs.period, Nat.zero_le _, Nat.zero_le _, Nat.zero_le _, hs.limit, hinterval⟩
    · exact hs
  case safetyLimit watts =>
    refine hkey ?_ false
    have hlimit : Safety.Sound { s.safety with limit := clampNat 100 2000 watts.toNat } :=
      ⟨hs.latch, hs.live, hs.ended, hs.period, hs.heatPermit, hs.motionPermit, hs.lidClosed,
        clampNat_within (by decide) _, hs.interval⟩
    unfold safetyLimitRule
    dsimp only
    split_ifs
    · simpa using hlimit
    · exact hlimit
  case safetyClear =>
    refine hkey ?_ false
    unfold safetyClearRule
    dsimp only
    split_ifs with hstop
    · exact hs
    · simp only [State.updateBlade_frame]
      exact ⟨fun h => absurd h hstop, hs.live, hs.ended, hs.period, hs.heatPermit, hs.motionPermit, hs.lidClosed,
        hs.limit, hs.interval⟩
  case leaseKeyB =>
    refine hkey ?_ false
    unfold leaseKeyBRule
    dsimp only
    split_ifs with hkeyset hlive
    · have := hs.period
      have hlive : s.safety.lease = .live := by simpa [State.leaseLive] using hlive
      exact ⟨hs.latch, fun _ => ⟨by simp; omega, by simp; omega⟩, fun h => absurd hlive h, hs.period, hs.heatPermit,
        hs.motionPermit, hs.lidClosed, hs.limit, hs.interval⟩
    · exact hs
    · exact hs
  case leaseArm period locked =>
    refine hkey ?_ false
    unfold leaseArmRule
    dsimp only
    split_ifs
    · exact hs
    · exact hs
    · rw [State.armLease_safety]
      have hperiod : within 5 80 (clampNat 5 80 period.toNat) := clampNat_within (by decide) _
      exact ⟨hs.latch, fun _ => ⟨by simp; omega, by simp; omega⟩, by simp, hperiod, hs.heatPermit, hs.motionPermit, hs.lidClosed, hs.limit, hs.interval⟩
  case leaseDisarm =>
    refine hkey ?_ false
    unfold leaseDisarmRule
    dsimp only
    split_ifs
    · exact hs
    · exact hs
    · simpa using hs.lapsed .unarmed false s.safety.keySequence (by simp)

/-- Under the latch no rule begins a run or manual operation (R24, R46, R154). -/
theorem rule_halts_of_latched {i : Instr} {rule : State → Executed} (hi : ruleOf i = some rule) {s : State}
    (hlatch : s.safety.stopLatch = true) (hstopped : s.run.state.halts = false) : (rule s).1.run.state.halts = false := by
  obtain ⟨hin, hmanual⟩ := RunState.not_inRun_of_not_halts hstopped
  have hrest (u : State) : u.restState.halts = false := u.restState_sameGates.1
  have hsame (h : (rule s).1.run.state = s.run.state) : (rule s).1.run.state.halts = false := by rwa [h]
  cases i <;> simp only [ruleOf, Option.some.injEq, reduceCtorEq] at hi <;> subst hi
  case putStep =>
    rcases putStepRule_cases _ _ s with heq | ⟨r, -, -, -, -, -, ⟨-, heq⟩ | ⟨-, heq⟩⟩ <;> rw [heq]
    · exact hstopped
    · exact hstopped
    · simp [RunState.halts]
  case deleteStep =>
    rcases deleteStepRule_cases _ s with heq | ⟨-, -, -, heq⟩ <;> rw [heq]
    · exact hstopped
    · dsimp only
      split_ifs <;> simp [hstopped]
  case clearProgram => rcases clearProgramRule_cases s with heq | ⟨-, -, heq⟩ <;> simp [heq, hstopped]
  case abort =>
    simp only [abortRule]
    split <;> simp [runReply, State.abortRun_run, hstopped]
  case enterConfig =>
    simp only [enterConfigRule]
    split <;> simp_all [runReply, RunState.halts]
  case manualSet =>
    simp only [manualSetRule]
    split_ifs <;> simp_all [runReply]
  case pause => simp [pauseRule, hin, hstopped]
  case confirm => simp [confirmRule, hin, hstopped]
  case start =>
    simp only [startRule]
    split_ifs <;> simp_all
  case resume =>
    have hheld : s.run.state ≠ .held := by rintro h; rw [h] at hin; cases hin
    simp [resumeRule, hheld, hstopped]
  case skip => simp [skipRule, hin, hstopped]
  case manualStop => simp [manualStopRule, hmanual, hstopped]
  case leaveConfig =>
    simp only [leaveConfigRule, inConfig]
    split_ifs <;> simp [runReply, hstopped]
  case warmReset => simp [warmResetRule, State.warmReset, Run.reset]
  case leaseArm =>
    simp only [clearsKey_fst, leaseArmRule]
    split_ifs
    · exact hstopped
    · exact hstopped
    · simp [State.armLease, State.examine_of_stopped, hstopped]
  case leaseDisarm =>
    simp only [clearsKey_fst, leaseDisarmRule]
    split_ifs
    · exact hstopped
    · exact hstopped
    · simp [State.disarmLease, State.examine_of_stopped, hstopped]
  case safetyStop => exact hsame (State.setStopLatch_of_stopped hstopped)
  case safetyClear => exact hsame (safetyClearRule_sameForRun s).1
  case safetyLimit => exact hsame (safetyLimitRule_sameForRun _ s).1
  case setAcceptance => exact hsame (inConfig_field (fun u => u.run.state) (by simp))
  case setService => exact hsame (inConfig_field (fun u => u.run.state) (by simp))
  case setBudget => exact hsame (inConfig_field (fun u => u.run.state) (by simp))
  case setLineFunction => exact hsame (inConfig_field (fun u => u.run.state) (by simp))
  case setLineFilter => exact hsame (inConfig_field (fun u => u.run.state) (by simp))
  case setScalePolicy => exact hsame (inConfig_field (fun u => u.run.state) (by simp))
  case loadScaleCalibration => exact hsame (inConfig_field (fun u => u.run.state) (by simp))
  case loadHeaterData => exact hsame (inConfig_field (fun u => u.run.state) (by simp))
  case loadThermistorTableFirst => exact hsame (inConfig_field (fun u => u.run.state) (by simp))
  case loadThermistorTableSecond => exact hsame (inConfig_field (fun u => u.run.state) (by simp))
  all_goals simp [hstopped]

/-- The latch is set by SAFETY STOP and by STOP_N alone; a reset leaves it as STOP_N stands. -/
theorem latchStops_rule {i : Instr} {rule : State → Executed} (hi : ruleOf i = some rule) {s : State}
    (hs : s.LatchStops) : (rule s).1.LatchStops := by
  by_cases hlatch : (rule s).1.safety.stopLatch = s.safety.stopLatch
  · intro hset
    rw [hlatch] at hset
    exact rule_halts_of_latched hi hset (hs hset)
  by_cases hacts : commandsSafety i = true
  swap
  · exact absurd (by rw [rule_safety hi (by simpa using hacts)]) hlatch
  cases i <;> simp only [commandsSafety, Bool.false_eq_true] at hacts <;>
    simp only [ruleOf, Option.some.injEq] at hi <;> subst hi
  case safetyStop =>
    intro _
    show (s.setStopLatch).run.state.halts = false
    unfold State.setStopLatch
    dsimp only
    split_ifs with hset
    · exact hs hset
    · simp [State.enterHalted, RunState.halts]
    · simp_all
  case warmReset => simp [State.LatchStops, warmResetRule, State.warmReset, Run.reset]
  case safetyClear =>
    refine fun hset => absurd hset ?_
    simp only [clearsKey_fst, safetyClearRule]
    split_ifs
    · simp_all [safetyClearRule]
    · simp
  all_goals refine absurd ?_ hlatch
  case setLineFilter => exact inConfig_field (fun u => u.safety.stopLatch) (by simp)
  case leaseArm =>
    simp only [clearsKey_fst, leaseArmRule]
    split_ifs <;> simp
  case leaseDisarm =>
    simp only [clearsKey_fst, leaseDisarmRule]
    split_ifs <;> simp
  case safetyLimit =>
    simp only [clearsKey_fst, safetyLimitRule]
    split_ifs <;> simp
  all_goals simp

/-- Settles O9: the block by the operations that act on it, and its link to the run by what HALTED shuts out. -/
theorem stepKeepsSafetySound : Obligations.StepKeepsSafetySound := by
  intro s t ht hs
  rw [State.safetySound_iff] at hs ⊢
  exact ⟨kept_by_step (P := fun u => u.safety.Sound) safetySound_rule safetySound_event (fun _ h => h) (fun _ h => h) ht hs.1,
    kept_by_step latchStops_rule latchStops_event (fun _ h => h) (fun _ h => h) ht hs.2⟩

end Sys2Proof.Machine
end

section
/-! SUPPORT. The step table, the inbound queue and the auxiliary lines stay within their bounds over every step (R1 to
R9, R16, R179, R180, R190, R191). -/

namespace Sys2Proof.Machine

/-! ## A record that is read is in range -/

theorem readHeat_inRange {present : Bool} {bytes rest : List Byte} {part : Option HeatPart} {k : Bool}
    (h : readHeat present bytes = some (part, k, rest)) :
    ∀ x ∈ part, within 300 1600 x.target ∧ within 50 1500 x.cap ∧ within 10 200 x.band := by
  unfold readHeat at h
  split_ifs at h
  · split at h
    · obtain ⟨rfl, -, -⟩ : _ ∧ _ ∧ _ := by simpa using h
      rintro x ⟨⟩
      exact ⟨clampNat_within (by decide) _, clampNat_within (by decide) _, clampNat_within (by decide) _⟩
    · cases h
  · obtain ⟨rfl, -⟩ : none = part ∧ _ := by simpa using h
    simp

theorem patternOf_inRange {mode on off : Byte} {p : Pattern} (h : patternOf mode on off = some p) :
    p.inRange = true := by
  unfold patternOf at h
  split at h <;> simp only [Option.some.injEq, reduceCtorEq] at h <;> subst h
  · rfl
  · simp [Pattern.inRange, clampNat_within]
  · rfl

theorem readStir_inRange {present : Bool} {bytes rest : List Byte} {part : Option StirPart} {k : Bool}
    (h : readStir present bytes = some (part, k, rest)) :
    ∀ x ∈ part, within 1 (topLevel x.direction x.pattern) x.level ∧ x.pattern.inRange = true := by
  unfold readStir at h
  split_ifs at h
  · split at h
    · split at h
      next d p hd hp =>
        obtain ⟨rfl, -, -⟩ : _ ∧ _ ∧ _ := by simpa using h
        rintro x ⟨⟩
        have htop : 1 ≤ topLevel d p := by unfold topLevel; split_ifs <;> omega
        exact ⟨clampNat_within htop _, patternOf_inRange hp⟩
      · cases h
    · cases h
  · obtain ⟨rfl, -⟩ : none = part ∧ _ := by simpa using h
    simp

theorem readWeigh_inRange {present : Bool} {bytes rest : List Byte} {part : Option WeighPart} {k : Bool}
    (h : readWeigh present bytes = some (part, k, rest)) :
    ∀ x ∈ part, within 10 100000 x.target ∧ x.tolerance ≤ 5000 := by
  unfold readWeigh at h
  split_ifs at h
  · split at h
    · obtain ⟨rfl, -, -⟩ : _ ∧ _ ∧ _ := by simpa using h
      rintro x ⟨⟩
      exact ⟨clampNat_within (by decide) _, (clampNat_within (lo := 0) (hi := 5000) (by decide) _).2⟩
    · cases h
  · obtain ⟨rfl, -⟩ : none = part ∧ _ := by simpa using h
    simp

theorem readTime_inRange {present : Bool} {bytes rest : List Byte} {part : Option TimePart} {k : Bool}
    (h : readTime present bytes = some (part, k, rest)) : ∀ x ∈ part, within 1 14400 x.duration := by
  unfold readTime at h
  split_ifs at h
  · split at h
    · split at h
      · obtain ⟨rfl, -, -⟩ : _ ∧ _ ∧ _ := by simpa using h
        rintro x ⟨⟩
        exact clampNat_within (by decide) _
      · cases h
    · cases h
  · obtain ⟨rfl, -⟩ : none = part ∧ _ := by simpa using h
    simp

theorem readLimit_inRange (flags h1 h0 : Byte) : ∀ x ∈ (readLimit flags h1 h0).1, within 1 14400 x := by
  unfold readLimit
  split_ifs
  · rintro x ⟨⟩
    exact clampNat_within (by decide) _
  · simp

/-- What PUT STEP stores is in range and structurally sound (R2 to R9). -/
theorem readRecord_inRange {bytes : List Byte} {r : StepRecord} (h : readRecord bytes = some r) : r.inRange := by
  unfold readRecord at h
  split at h
  swap
  · cases h
  simp only [bind, Option.bind_eq_some_iff] at h
  obtain ⟨endMode, -, ⟨heat, k1, r1⟩, hheat, ⟨stir, k2, r2⟩, hstir, ⟨weigh, k3, r3⟩, hweigh, ⟨time, k4, r4⟩, htime,
    ⟨prompt, k5, r5⟩, -, h⟩ := h
  dsimp only at h
  split_ifs at h with hsound
  obtain rfl := Option.some.inj h
  exact ⟨readLimit_inRange _ _ _, readHeat_inRange hheat, readStir_inRange hstir, readWeigh_inRange hweigh,
    readTime_inRange htime, hsound.2.2, by simp⟩

/-! ## The step table -/

theorem Program.sound_congr {p q : Program} (h : q.Kept p) (hp : p.Sound) : q.Sound := by
  obtain ⟨hsteps, hhold0, hhold1, hresults⟩ := h
  simpa only [Program.Sound, Program.length, hsteps, hhold0, hhold1, hresults] using hp

theorem Program.sound_put {p : Program} {i : Nat} {r : StepRecord} (hi : i ≤ p.length) (hfull : i = p.length → p.length < 48)
    (hr : r.inRange) (hp : p.Sound) : (p.put i r).Sound := by
  obtain ⟨hlength, hresults, hrange, hhold0, hhold1, hdiffer⟩ := hp
  have hput := Program.length_put p i r
  have hgrows : p.length ≤ (p.put i r).length := by rw [hput]; split_ifs <;> omega
  have hbound : (p.put i r).length ≤ 48 := by
    rw [hput]
    split_ifs with hbelow
    · exact hlength
    · exact hfull (by omega)
  refine ⟨hbound, by simp [Program.put, hresults], fun x hx => ?_, fun j hj => (hhold0 j hj).trans_le hgrows,
    fun j hj => (hhold1 j hj).trans_le hgrows, hdiffer⟩
  simp only [Program.put] at hx
  split_ifs at hx
  · rcases List.mem_or_eq_of_mem_set hx with hx | rfl
    · exact hrange x hx
    · exact hr
  · rcases List.mem_append.mp hx with hx | hx
    · exact hrange x hx
    · rwa [List.mem_singleton.mp hx]

/-- A hold-point slot after a removal holds the place its record moved to (R19). -/
theorem holdAfterDelete_eq_some {d i : Nat} {h : Option Nat} :
    holdAfterDelete d h = some i ↔ ∃ j, h = some j ∧ j ≠ d ∧ i = if d < j then j - 1 else j := by
  cases h with
  | none => simp [holdAfterDelete]
  | some j =>
    by_cases hd : j = d
    · simp [holdAfterDelete, hd]
    · by_cases hlt : d < j <;> simp [holdAfterDelete, hd, hlt] <;> exact eq_comm

theorem Program.sound_delete {p : Program} {d : Nat} (hd : d < p.length) (hp : p.Sound) : (p.delete d).Sound := by
  obtain ⟨hlength, hresults, hrange, hhold0, hhold1, hdiffer⟩ := hp
  have hdelete := Program.length_delete hd
  have hplace {h : Option Nat} (hh : ∀ i ∈ h, i < p.length) : ∀ i ∈ holdAfterDelete d h, i < (p.delete d).length := by
    rintro i hi
    obtain ⟨j, hj, hne, rfl⟩ := holdAfterDelete_eq_some.mp hi
    have := hh j hj
    split_ifs <;> omega
  refine ⟨?_, ?_, fun x hx => hrange x (List.mem_of_mem_eraseIdx hx), hplace hhold0, hplace hhold1, ?_⟩
  · have hbelow : p.length ≤ 48 := hlength
    exact hdelete.le.trans (by omega)
  · have hd' : d < p.steps.length := hd
    simp only [Program.delete, List.length_append, List.length_eraseIdx, List.length_take, List.length_drop,
      List.length_singleton, hresults, Program.length]
    split_ifs <;> omega
  · rintro i hi j hj
    obtain ⟨i', hi', hine, rfl⟩ := holdAfterDelete_eq_some.mp hi
    obtain ⟨j', hj', hjne, rfl⟩ := holdAfterDelete_eq_some.mp hj
    have := hdiffer i' hi' j' hj'
    split_ifs <;> omega

theorem Program.reset_sound : Program.reset.Sound := by decide

theorem holdSlots_sound {p : Program} {slot i : Nat} (hslot : slot ≤ 1) (hi : i < p.length)
    (hother : p.holdSlot (1 - slot) ≠ some i) (hp : p.Sound) : (p.setHold slot (some i)).Sound := by
  obtain ⟨hlength, hresults, hrange, hhold0, hhold1, hdiffer⟩ := hp
  obtain rfl | rfl : slot = 0 ∨ slot = 1 := by omega
  · refine ⟨hlength, hresults, hrange, fun j hj => Option.some.inj hj ▸ hi, hhold1, fun j hj k hk => ?_⟩
    simp only [Program.holdSlot, Nat.sub_zero, one_ne_zero, if_false] at hother
    obtain rfl := Option.some.inj hj
    rintro rfl
    exact hother hk
  · refine ⟨hlength, hresults, hrange, hhold0, fun j hj => Option.some.inj hj ▸ hi, fun j hj k hk => ?_⟩
    simp only [Program.holdSlot, Nat.sub_self, if_true] at hother
    obtain rfl := Option.some.inj hk
    rintro rfl
    exact hother hj

theorem holdSlots_cleared {p : Program} (slot : Nat) (hp : p.Sound) : (p.setHold slot none).Sound := by
  obtain ⟨hlength, hresults, hrange, hhold0, hhold1, hdiffer⟩ := hp
  unfold Program.setHold
  split_ifs
  · exact ⟨hlength, hresults, hrange, by simp, hhold1, by simp⟩
  · exact ⟨hlength, hresults, hrange, hhold0, by simp, by simp⟩

/-- The commands that edit the table or clear its results. -/
def editsTable : Instr → Bool
  | .putStep .. | .deleteStep .. | .clearProgram .. | .setHoldPoint .. | .clearHoldPoint .. | .start .. | .warmReset .. => true
  | _ => false

/-- Every other command leaves the table but for what its results hold. -/
theorem rule_program {i : Instr} {rule : State → Executed} (hi : ruleOf i = some rule) (hedits : editsTable i = false)
    (s : State) : (rule s).1.program.Kept s.program := by
  cases i <;> simp only [ruleOf, editsTable, Option.some.injEq, reduceCtorEq] at hi hedits <;> subst hi
  case abort =>
    simp only [abortRule]
    split <;> simp [runReply]
  case enterConfig =>
    simp only [enterConfigRule]
    split <;> simp [runReply]
  case manualSet =>
    simp only [manualSetRule]
    split_ifs <;> simp [runReply]
  case pause =>
    simp only [pauseRule]
    split_ifs <;> simp [runReply]
  case confirm =>
    simp only [confirmRule]
    split_ifs <;> simp
  case resume =>
    simp only [resumeRule]
    split_ifs <;> simp [runReply]
  case skip =>
    simp only [skipRule]
    split_ifs <;> simp [runReply]
  case manualStop =>
    simp only [manualStopRule]
    split_ifs <;> simp [runReply]
  case leaveConfig =>
    simp only [leaveConfigRule, inConfig]
    split_ifs <;> simp [runReply]
  case leaseArm =>
    simp only [clearsKey_fst, leaseArmRule]
    split_ifs <;> simp [State.armLease]
  case leaseDisarm =>
    simp only [clearsKey_fst, leaseDisarmRule]
    split_ifs <;> simp [State.disarmLease]
  case safetyStop => simp [safetyStopRule]
  case safetyClear =>
    simp only [clearsKey_fst, safetyClearRule]
    split_ifs <;> simp
  case safetyLimit =>
    simp only [clearsKey_fst, safetyLimitRule]
    split_ifs <;> simp
  case setAcceptance => simp [inConfig_field State.program]
  case setService => simp [inConfig_field State.program]
  case setBudget => simp [inConfig_field State.program]
  case setLineFunction => simp [inConfig_field State.program]
  case setLineFilter => simp [inConfig_field State.program]
  case setScalePolicy => simp [inConfig_field State.program]
  case loadScaleCalibration => simp [inConfig_field State.program]
  case loadHeaterData => simp [inConfig_field State.program]
  case loadThermistorTableFirst => simp [inConfig_field State.program]
  case loadThermistorTableSecond => simp [inConfig_field State.program]
  all_goals simp

/-- START leaves the table, with its results cleared, but for what the first entry writes (R24). -/
theorem State.startRun_program (s : State) :
    s.startRun.program.Kept { s.program with results := List.replicate Config.tableSize .cleared } := by
  simp [State.startRun]

theorem programSound_rule {i : Instr} {rule : State → Executed} (hi : ruleOf i = some rule) {s : State}
    (hs : s.program.Sound) : (rule s).1.program.Sound := by
  by_cases hedits : editsTable i = true
  swap
  · exact Program.sound_congr (rule_program hi (by simpa using hedits) s) hs
  cases i <;> simp only [editsTable, Bool.false_eq_true] at hedits <;>
    simp only [ruleOf, Option.some.injEq] at hi <;> subst hi
  case putStep =>
    rcases putStepRule_cases _ _ s with heq | ⟨r, hread, -, -, hindex, hfull, ⟨-, heq⟩ | ⟨-, heq⟩⟩ <;> rw [heq]
    · exact hs
    · exact Program.sound_put hindex hfull (readRecord_inRange hread) hs
    · exact Program.sound_put hindex hfull (readRecord_inRange hread) hs
  case deleteStep =>
    rcases deleteStepRule_cases _ s with heq | ⟨-, -, hindex, heq⟩ <;> rw [heq]
    · exact hs
    · dsimp only
      split_ifs <;> exact Program.sound_delete hindex hs
  case clearProgram =>
    rcases clearProgramRule_cases s with heq | ⟨-, -, heq⟩ <;> rw [heq]
    · exact hs
    · exact Program.reset_sound
  case setHoldPoint slot index =>
    simp only [setHoldPointRule]
    split_ifs with hstate hslot hindex hother
    · exact hs
    · exact hs
    · exact hs
    · exact hs
    · exact holdSlots_sound (by omega) (by omega) hother hs
  case clearHoldPoint =>
    simp only [clearHoldPointRule]
    split_ifs
    · exact hs
    · exact hs
    · exact holdSlots_cleared _ hs
  case start =>
    have hcleared : Program.Sound { s.program with results := List.replicate Config.tableSize .cleared } :=
      ⟨hs.1, by simp [Config.tableSize], hs.2.2⟩
    simp only [startRule]
    split_ifs
    · exact hs
    · exact Program.sound_congr (State.startRun_program s) hcleared
    · exact hs
  case warmReset =>
    have hwarm : s.program.warm.Sound := ⟨hs.1, by simp [Program.warm, Config.tableSize], hs.2.2⟩
    simpa [warmResetRule, State.warmReset] using hwarm

@[simp] theorem State.baseReading_program (s : State) (r : Reading) :
    (s.baseReading r).program.Kept s.program := by
  unfold State.baseReading
  dsimp only
  split_ifs <;> simp

@[simp] theorem State.deliver_program (s : State) (channel : Channel) (live : Bool) (code : Nat) :
    (s.deliver channel live code).program.Kept s.program := by
  cases channel with
  | mains => simp [State.deliver]
  | motorI =>
    obtain ⟨power, hpower⟩ := s.motorReading_eq code
    simp [State.deliver, hpower]
  | _ => simp [State.deliver]

@[simp] theorem State.beginCycle_program (s : State) : s.beginCycle.program.Kept s.program := by
  unfold State.beginCycle
  split
  · split_ifs <;> simp [State.startWindow, State.grantWindow]
  · simp [State.startWindow, State.grantWindow]

@[simp] theorem State.validSample_program (s : State) (codes : List (Tri × Tri)) :
    (s.validSample codes).program.Kept s.program := by
  simp [State.validSample]

/-- Every event but a reset leaves the table but for what its results hold. -/
theorem event_program {i : Instr} (hi : ruleOf i = none) (hpower : ∀ a n, i ≠ .powerOnReset a n) {s t : State}
    (ht : exec i s = .next t) : t.program.Kept s.program := by
  by_cases hplain : isPlain i = true
  · exact (samePlainly_of_isPlain hplain ht).1
  cases i <;> simp only [ruleOf, isPlain, reduceCtorEq, not_true_eq_false] at hi hplain <;>
    obtain rfl := Host.Outcome.next.inj ht
  case powerOnReset a n => exact absurd rfl (hpower a n)
  case mainsZeroCrossing =>
    split
    · dsimp only
      split_ifs <;> simp
    · simp
  case mainsLossTimeout => split <;> simp
  case scaleBurstComplete =>
    split
    · dsimp only
      split_ifs <;> simp [State.saturatedSample]
    · simp
  case leaseTick =>
    split
    · dsimp only
      split_ifs <;> simp
    · simp
  case lineFilterSample => simp
  case stopNAsserted => simp
  case stopNReleased => simp
  all_goals split <;> simp

end Sys2Proof.Machine
end

section
/-! SUPPORT. What commands and events leave of the stores: the auxiliary lines, the inbound queue, the masses and the
log; and the auxiliary lines and the queue kept within their bounds over every step (R179, R180, R190, R191). -/

namespace Sys2Proof.Machine

/-- The auxiliary lines, the queue with its reserved place, the masses and the log but for its open flag. -/
@[simp] abbrev State.SameStores (t s : State) : Prop :=
  t.aux.lines = s.aux.lines ∧ t.bus.queue = s.bus.queue ∧ t.bus.writing = s.bus.writing ∧
  t.weigh.history = s.weigh.history ∧ t.weigh.recent = s.weigh.recent ∧ t.weigh.settled = s.weigh.settled ∧
  t.weigh.reported = s.weigh.reported ∧ t.weigh.tare = s.weigh.tare ∧ t.log.Kept s.log

/-- The commands that act on the stores. -/
def commandsStores : Instr → Bool
  | .setLineLevel .. | .setLineFunction .. | .loadScaleCalibration .. | .start .. | .warmReset .. => true
  | _ => false

/-- Every other command leaves the stores. -/
theorem rule_stores {i : Instr} {rule : State → Executed} (hi : ruleOf i = some rule)
    (hacts : commandsStores i = false) (s : State) : (rule s).1.SameStores s := by
  cases i <;> simp only [ruleOf, commandsStores, Option.some.injEq, reduceCtorEq] at hi hacts <;> subst hi
  case abort =>
    simp only [abortRule]
    split <;> simp [runReply]
  case enterConfig =>
    simp only [enterConfigRule]
    split <;> simp [runReply]
  case manualSet =>
    simp only [manualSetRule]
    split_ifs <;> simp [runReply]
  case pause =>
    simp only [pauseRule]
    split_ifs <;> simp [runReply]
  case confirm =>
    simp only [confirmRule]
    split_ifs <;> simp
  case resume =>
    simp only [resumeRule]
    split_ifs <;> simp [runReply]
  case skip =>
    simp only [skipRule]
    split_ifs <;> simp [runReply]
  case manualStop =>
    simp only [manualStopRule]
    split_ifs <;> simp [runReply]
  case leaveConfig =>
    simp only [leaveConfigRule, inConfig]
    split_ifs <;> simp [runReply]
  case putStep =>
    rcases putStepRule_cases _ _ s with heq | ⟨r, -, -, -, -, -, ⟨-, heq⟩ | ⟨-, heq⟩⟩ <;> rw [heq] <;> simp
  case deleteStep =>
    rcases deleteStepRule_cases _ s with heq | ⟨-, -, -, heq⟩ <;> rw [heq]
    · simp
    · dsimp only
      split_ifs <;> simp
  case clearProgram =>
    rcases clearProgramRule_cases s with heq | ⟨-, -, heq⟩ <;> rw [heq] <;> simp
  case leaseArm =>
    simp only [clearsKey_fst, leaseArmRule]
    split_ifs <;> simp [State.armLease]
  case leaseDisarm =>
    simp only [clearsKey_fst, leaseDisarmRule]
    split_ifs <;> simp [State.disarmLease]
  case safetyStop => simp [safetyStopRule]
  case safetyClear =>
    simp only [clearsKey_fst, safetyClearRule]
    split_ifs <;> simp
  case safetyLimit =>
    simp only [clearsKey_fst, safetyLimitRule]
    split_ifs <;> simp
  case setAcceptance => exact inConfig_keeps (P := fun u => u.SameStores s) (fun _ => by simp) (by simp)
  case setService => exact inConfig_keeps (P := fun u => u.SameStores s) (fun _ => by simp) (by simp)
  case setBudget => exact inConfig_keeps (P := fun u => u.SameStores s) (fun _ => by simp) (by simp)
  case setLineFilter => exact inConfig_keeps (P := fun u => u.SameStores s) (fun _ => by simp) (by simp)
  case setScalePolicy => exact inConfig_keeps (P := fun u => u.SameStores s) (fun _ => by simp) (by simp)
  case loadHeaterData => exact inConfig_keeps (P := fun u => u.SameStores s) (fun _ => by simp) (by simp)
  case loadThermistorTableFirst => exact inConfig_keeps (P := fun u => u.SameStores s) (fun _ => by simp) (by simp)
  case loadThermistorTableSecond => exact inConfig_keeps (P := fun u => u.SameStores s) (fun _ => by simp) (by simp)
  all_goals simp

/-- The events that act on the stores. -/
def actsOnStores : Instr → Bool
  | .powerOnReset .. | .badFrame .. | .writeAddressPhase .. | .writeEnd .. | .readAddressPhase .. | .scaleTrigInEdge ..
  | .scaleBurstComplete .. | .tareForced => true
  | _ => false

@[simp] theorem State.baseReading_stores (s : State) (r : Reading) : (s.baseReading r).SameStores s := by
  unfold State.baseReading
  dsimp only
  split_ifs <;> simp

@[simp] theorem State.elementReading_stores (s : State) (r : Reading) : (s.elementReading r).SameStores s := by
  unfold State.elementReading
  dsimp only
  split_ifs <;> simp

@[simp] theorem State.setMains_stores (s : State) (m : MainsState) : (s.setMains m).SameStores s := by
  unfold State.setMains
  dsimp only
  split_ifs <;> simp

@[simp] theorem State.deliver_stores (s : State) (channel : Channel) (live : Bool) (code : Nat) :
    (s.deliver channel live code).SameStores s := by
  cases channel with
  | mains =>
    simp only [State.deliver, State.mainsReading]
    split_ifs <;> simp
  | motorI =>
    obtain ⟨power, hpower⟩ := s.motorReading_eq code
    simp [State.deliver, hpower]
  | _ => simp [State.deliver]

@[simp] theorem State.beginCycle_stores (s : State) : s.beginCycle.SameStores s := by
  unfold State.beginCycle
  split
  · split_ifs <;> simp [State.startWindow, State.grantWindow, State.endWindow]
  · simp [State.startWindow, State.grantWindow]

@[simp] theorem State.sampleLine_stores (s : State) (l : SlowLine) (level : Bool) :
    (s.sampleLine l level).SameStores s := by
  unfold State.sampleLine
  dsimp only
  split_ifs <;> simp

/-- Every other event leaves the stores. -/
theorem event_stores {i : Instr} (hi : ruleOf i = none) (hacts : actsOnStores i = false) {s t : State}
    (ht : exec i s = .next t) : t.SameStores s := by
  cases i <;> simp only [ruleOf, actsOnStores, reduceCtorEq] at hi hacts <;> obtain rfl := Host.Outcome.next.inj ht
  case thermistorTimer => simp
  case motorITimer => simp
  case speedCheck =>
    split
    · split_ifs <;> simp
    · simp
  case freeClockTick =>
    repeat' split
    all_goals simp
  case indexPulse =>
    dsimp only
    split_ifs <;> simp
  case inverterRestWaitEnd =>
    repeat' split
    all_goals simp
  case mainsZeroCrossing =>
    split
    · dsimp only
      split_ifs <;> simp
    · simp
  case leaseTick =>
    split
    · dsimp only
      split_ifs <;> simp
    · simp
  case lineFilterSample => simp
  case stopNAsserted => simp
  case stopNReleased => simp
  all_goals split <;> simp [State.riseActive]

/-! ## The auxiliary lines -/

theorem Aux.sound_congr {a b : Aux} (h : b.lines.map AuxLine.function = a.lines.map AuxLine.function) (ha : a.Sound) :
    b.Sound := by
  have hlength : b.lines.length = a.lines.length := by simpa using congrArg List.length h
  have hfunction (i : Nat) : b.functionOf i = a.functionOf i := by
    simpa [Aux.functionOf] using congrArg (·[i]?) h
  simpa only [Aux.Sound, hlength, hfunction] using ha

theorem Aux.setPin_functions (a : Aux) (i : Nat) (level : Bool) :
    (a.setPin i level).lines.map AuxLine.function = a.lines.map AuxLine.function := by
  refine List.ext_getElem? fun j => ?_
  simp only [Aux.setPin, List.getElem?_map, List.getElem?_modify]
  cases a.lines[j]? <;> simp
  split_ifs <;> rfl

theorem Aux.setPins_functions (a : Aux) (pins : Byte) :
    (a.setPins pins).lines.map AuxLine.function = a.lines.map AuxLine.function := by
  refine List.ext_getElem? fun j => ?_
  simp only [Aux.setPins, List.getElem?_map, List.getElem?_mapIdx]
  cases a.lines[j]? <;> rfl

theorem Aux.setLatch_functions (a : Aux) (i : Nat) (level : Bool) :
    (a.setLatch i level).lines.map AuxLine.function = a.lines.map AuxLine.function := by
  refine List.ext_getElem? fun j => ?_
  simp only [Aux.setLatch, List.getElem?_map, List.getElem?_modify]
  cases a.lines[j]? <;> simp
  split_ifs <;> rfl

theorem Aux.trigElsewhere_eq_false {a : Aux} {i : Nat} :
    a.trigElsewhere i = false ↔ ∀ j < 8, j ≠ i → a.functionOf j ≠ some .scaleTrigIn := by
  simp only [Aux.trigElsewhere, Aux.functionOf, List.any_eq_false, List.mem_range, Bool.and_eq_true, decide_eq_true_eq,
    not_and]

theorem Aux.functionOf_setFunction (a : Aux) (i j : Nat) (f : LineFunction) :
    (a.setFunction i f).functionOf j = if i = j then (a.functionOf j).map fun _ => f else a.functionOf j := by
  simp only [Aux.functionOf, Aux.setFunction, List.getElem?_modify]
  cases a.lines[j]? with
  | none => split_ifs <;> rfl
  | some l => split_ifs <;> simp_all

theorem Aux.sound_setFunction {a : Aux} {i : Nat} {f : LineFunction} (hallowed : f ∈ allowedFunctions i)
    (htrig : ¬ (f = .scaleTrigIn ∧ a.trigElsewhere i = true)) (ha : a.Sound) : (a.setFunction i f).Sound := by
  obtain ⟨hlength, hfunctions, honce⟩ := ha
  refine ⟨by simp [Aux.setFunction, hlength], fun j g hg => ?_, fun j k hj hk => ?_⟩
  · rw [Aux.functionOf_setFunction] at hg
    split_ifs at hg with heq
    · obtain ⟨-, -, rfl⟩ := Option.mem_map.mp hg
      rwa [← heq]
    · exact hfunctions j g hg
  · rw [Aux.functionOf_setFunction] at hj hk
    have hother (hf : f = .scaleTrigIn) (l : Fin 8) (hl : a.functionOf l = some .scaleTrigIn) : i = l := by
      by_contra hne
      have hfree : a.trigElsewhere i = false := by simpa [hf] using htrig
      exact Aux.trigElsewhere_eq_false.mp hfree l l.isLt (Ne.symm hne) hl
    split_ifs at hj hk with hij hik hik
    · exact Fin.ext (hij.symm.trans hik)
    · obtain ⟨-, -, hf⟩ := Option.map_eq_some_iff.mp hj
      exact absurd (hother hf k hk) hik
    · obtain ⟨-, -, hf⟩ := Option.map_eq_some_iff.mp hk
      exact absurd (hother hf j hj) hij
    · exact honce j k hj hk

theorem auxSound_rule {i : Instr} {rule : State → Executed} (hi : ruleOf i = some rule) {s : State} (hs : s.aux.Sound) :
    (rule s).1.aux.Sound := by
  by_cases hacts : commandsStores i = true
  swap
  · exact Aux.sound_congr (congrArg _ (rule_stores hi (by simpa using hacts) s).1) hs
  cases i <;> simp only [commandsStores, Bool.false_eq_true] at hacts <;>
    simp only [ruleOf, Option.some.injEq] at hi <;> subst hi
  case setLineLevel line level pin =>
    simp only [setLineLevelRule]
    split_ifs
    · exact hs
    · exact Aux.sound_congr ((Aux.setLatch_functions ..).trans (Aux.setPin_functions s.aux _ pin)) hs
  case setLineFunction line function pin =>
    refine inConfig_keeps (P := fun u => u.aux.Sound) (fun _ => ?_) hs
    simp only [setLineFunctionRule]
    split
    · exact hs
    · split_ifs with hallowed htrig
      · exact hs
      · have hsensed : (s.aux.sensePin line.toNat pin).Sound := Aux.sound_congr (Aux.setPin_functions s.aux _ pin) hs
        have hsame : (s.aux.sensePin line.toNat pin).trigElsewhere line.toNat = s.aux.trigElsewhere line.toNat := by
          have hfunction (j : Nat) : (s.aux.sensePin line.toNat pin).functionOf j = s.aux.functionOf j := by
            simpa [Aux.functionOf, Aux.setPin, Aux.sensePin] using
              congrArg (·[j]?) (Aux.setPin_functions s.aux line.toNat pin)
          rw [Bool.eq_iff_iff, ← not_iff_not]
          simp only [Bool.not_eq_true, Aux.trigElsewhere_eq_false, hfunction]
        exact Aux.sound_setFunction hallowed (by rwa [hsame]) hsensed
      · exact hs
  case loadScaleCalibration =>
    exact inConfig_keeps (P := fun u => u.aux.Sound) (fun _ => by simpa using hs) hs
  case start =>
    refine Aux.sound_congr (congrArg _ ?_) hs
    simp only [startRule]
    split_ifs <;> simp [runReply, State.startRun]
  case warmReset =>
    refine Aux.sound_congr (congrArg _ ?_) hs
    simp [warmResetRule, State.warmReset, Aux.warm]

theorem auxSound_event {i : Instr} (hi : ruleOf i = none) {s t : State} (ht : exec i s = .next t) (hs : s.aux.Sound) :
    t.aux.Sound := by
  by_cases hacts : actsOnStores i = true
  swap
  · exact Aux.sound_congr (congrArg _ (event_stores hi (by simpa using hacts) ht).1) hs
  cases i <;> simp only [actsOnStores, Bool.false_eq_true] at hacts <;> obtain rfl := Host.Outcome.next.inj ht
  case powerOnReset => exact show Aux.reset.Sound by decide
  case badFrame =>
    split_ifs
    · split
      next h => rcases State.takeFrame_cases h with ⟨rest, -, rfl⟩ | ⟨-, -, -, rfl⟩ <;> simpa using hs
      · exact hs
    · exact hs
  case writeAddressPhase =>
    repeat' split
    all_goals exact hs
  case writeEnd => split <;> exact hs
  case readAddressPhase =>
    split
    · exact Aux.sound_congr (Aux.setPins_functions s.aux _) hs
    · exact hs
  case scaleTrigInEdge =>
    dsimp only
    split_ifs <;> exact Aux.sound_congr (by simp [Aux.setPin_functions]) hs
  case scaleBurstComplete =>
    split
    · dsimp only
      split_ifs
      · simpa [State.saturatedSample] using hs
      · exact Aux.sound_congr (by simp [State.validSample]) hs
    · exact hs
  case tareForced => split <;> simpa using hs

/-! ## The inbound queue -/

theorem Bus.bounded_congr {b c : Bus} (hqueue : c.queue = b.queue) (hwriting : c.writing = b.writing) (hb : b.Bounded) :
    c.Bounded := by
  simpa only [Bus.Bounded, hqueue, hwriting] using hb

theorem Bus.bounded_takenFrom {b c : Bus} (h : c.TakenFrom b) (hb : b.Bounded) : c.Bounded := by
  obtain rfl | ⟨f, rest, hqueue, rfl⟩ := h
  · exact hb
  · obtain ⟨hlength, hwriting, hframes⟩ := hb
    rw [hqueue, List.length_cons] at hlength hwriting
    exact ⟨by dsimp only; omega, fun h => by have := hwriting h; dsimp only; omega,
      fun g hg => hframes g (hqueue ▸ List.mem_cons_of_mem f hg)⟩

theorem State.takeFrame_takenFrom {s s1 : State} {f : Frame} (h : s.takeFrame f = some s1) : s1.bus.TakenFrom s.bus := by
  rcases State.takeFrame_cases h with ⟨rest, hqueue, rfl⟩ | ⟨-, -, -, rfl⟩
  · exact .inr ⟨f, rest, hqueue, rfl⟩
  · exact .inl rfl

theorem busBounded_rule {i : Instr} {rule : State → Executed} (hi : ruleOf i = some rule) {s : State}
    (hs : s.bus.Bounded) : (rule s).1.bus.Bounded := by
  by_cases hacts : commandsStores i = true
  swap
  · obtain ⟨-, hqueue, hwriting, -⟩ := rule_stores hi (by simpa using hacts) s
    exact Bus.bounded_congr hqueue hwriting hs
  cases i <;> simp only [commandsStores, Bool.false_eq_true] at hacts <;>
    simp only [ruleOf, Option.some.injEq] at hi <;> subst hi
  case setLineFunction => exact inConfig_keeps (P := fun u => u.bus.Bounded) (fun _ => by simpa using hs) hs
  case loadScaleCalibration => exact inConfig_keeps (P := fun u => u.bus.Bounded) (fun _ => by simpa using hs) hs
  case setLineLevel => simpa using hs
  case start =>
    simp only [startRule]
    split_ifs <;> simpa [runReply] using hs
  case warmReset =>
    have hqueue : (warmResetRule s).1.bus.queue = [] := by simp [warmResetRule, State.warmReset, Bus.warm]
    exact ⟨by simp [hqueue], by simp [hqueue], by simp [hqueue]⟩

theorem frameOfWrite_bounded (p : Port) {bytes : List Byte} (h : bytes ≠ []) :
    1 ≤ (frameOfWrite p bytes).bytes.length ∧ (frameOfWrite p bytes).bytes.length ≤ 40 := by
  have := List.length_pos_iff.mpr h
  simp only [frameOfWrite, List.length_take, Config.frameBytes]
  omega

/-- The end of a write fills its reserved place, or releases it (R180). -/
theorem Bus.bounded_writeEnd {b : Bus} {p : Port} {bytes : List Byte} (hwriting : b.writing = some p) (hb : b.Bounded)
    (answers : List Bool) : Bus.Bounded { b with
      writing := none, queue := if bytes = [] then b.queue else b.queue ++ [frameOfWrite p bytes]
      dataAnswers := answers } := by
  obtain ⟨-, hplace, hframes⟩ := hb
  have hroom := hplace (by simp [hwriting])
  split_ifs with hempty
  · exact ⟨by dsimp only; omega, by simp, hframes⟩
  · refine ⟨by simp; omega, by simp, fun f hf => ?_⟩
    rcases List.mem_append.mp hf with hf | hf
    · exact hframes f hf
    · rw [List.mem_singleton.mp hf]
      exact frameOfWrite_bounded p hempty

theorem busBounded_event {i : Instr} (hi : ruleOf i = none) {s t : State} (ht : exec i s = .next t)
    (hs : s.bus.Bounded) : t.bus.Bounded := by
  by_cases hacts : actsOnStores i = true
  swap
  · obtain ⟨-, hqueue, hwriting, -⟩ := event_stores hi (by simpa using hacts) ht
    exact Bus.bounded_congr hqueue hwriting hs
  cases i <;> simp only [actsOnStores, Bool.false_eq_true] at hacts <;> obtain rfl := Host.Outcome.next.inj ht
  case powerOnReset a n => exact ⟨by simp [State.powerOn, Bus.reset], by simp [State.powerOn, Bus.reset],
      by simp [State.powerOn, Bus.reset]⟩
  case badFrame =>
    split_ifs
    · split
      next s1 h =>
        have hs1 : s1.bus.Bounded := Bus.bounded_takenFrom (State.takeFrame_takenFrom h) hs
        exact hs1
      · exact hs
    · exact hs
  case writeAddressPhase =>
    split
    · exact hs
    · split
      · split_ifs with hroom
        · exact ⟨hs.1, fun _ => Nat.le_of_lt_succ hroom, hs.2.2⟩
        · exact hs
      · exact hs
  case writeEnd =>
    split
    next p hwriting => exact Bus.bounded_writeEnd hwriting hs _
    · exact hs
  case readAddressPhase => split <;> exact hs
  case scaleTrigInEdge =>
    dsimp only
    split_ifs <;> simpa using hs
  case scaleBurstComplete =>
    split
    · dsimp only
      split_ifs <;> simpa [State.saturatedSample] using hs
    · exact hs
  case tareForced => split <;> simpa using hs

/-- One step keeps a promise that the rules, the events and the taking of a frame keep. -/
theorem kept_by_step_of_bus {P : State → Prop}
    (hrule : ∀ {i rule}, ruleOf i = some rule → ∀ {s}, P s → P (rule s).1)
    (hevent : ∀ {i}, ruleOf i = none → ∀ {s t}, exec i s = .next t → P s → P t)
    (htaken : ∀ {s : State} {b}, Bus.TakenFrom b s.bus → P s → P { s with bus := b })
    (hslots : ∀ {s : State} p code r, P s → P (s.recordReply p code r))
    (hpending : ∀ {s : State} l, P s → P { s with pending := l }) {s t : State} (ht : step s = .next t) (hs : P s) :
    P t := by
  rcases step_cases ht with rfl | ⟨i, rest, hexec⟩
  · exact hs
  cases hi : ruleOf i with
  | none => exact hevent hi hexec (hpending rest hs)
  | some rule =>
    obtain ⟨b, hb, rfl | ⟨p, code, r, rfl⟩ | ⟨p, code, r, rfl⟩⟩ := exec_command_cases hi hexec
    · exact hpending rest hs
    · exact hslots _ _ _ (htaken hb (hpending rest hs))
    · exact hslots _ _ _ (hrule hi (htaken hb (hpending rest hs)))

theorem programSound_event {i : Instr} (hi : ruleOf i = none) {s t : State} (ht : exec i s = .next t)
    (hs : s.program.Sound) : t.program.Sound := by
  by_cases hpower : ∃ a n, i = .powerOnReset a n
  · obtain ⟨a, n, rfl⟩ := hpower
    obtain rfl := Host.Outcome.next.inj ht
    exact Program.reset_sound
  · exact Program.sound_congr (event_program hi (fun a n h => hpower ⟨a, n, h⟩) ht) hs

/-- Settles O5: the table, the queue and the lines each keep their own bound over every rule and every event. -/
theorem stepKeepsTablesAndQueue : Obligations.StepKeepsTablesAndQueue := by
  intro s t ht
  refine ⟨fun hs => ?_, fun hs => ?_, fun hs => ?_⟩
  · exact kept_by_step (P := fun u => u.program.Sound) programSound_rule programSound_event (fun _ h => h) (fun _ h => h)
      ht hs
  · exact kept_by_step_of_bus (P := fun u => u.bus.Bounded) busBounded_rule busBounded_event
      (fun hb h => Bus.bounded_takenFrom hb h) (fun _ _ _ h => h) (fun _ h => h) ht hs
  · exact kept_by_step (P := fun u => u.aux.Sound) auxSound_rule auxSound_event (fun _ h => h) (fun _ h => h) ht hs

end Sys2Proof.Machine
end

section
/-! SUPPORT. The masses stay in range, and the ingredient log balanced and consecutively numbered, over every step (R61 to
R71, R87 to R89). -/

namespace Sys2Proof.Machine

/-! ## The masses -/

theorem clampInt_within {lo hi : Int} (h : lo ≤ hi) (x : Int) : withinInt lo hi (clampInt lo hi x) := by
  unfold clampInt withinInt
  split_ifs <;> omega

theorem median3_mem (a b c : Int) : median3 a b c = a ∨ median3 a b c = b ∨ median3 a b c = c := by
  unfold median3
  omega

theorem pushLast_length_le (n : Nat) (l : List Int) (x : Int) : (pushLast n l x).length ≤ n := by
  simp only [pushLast, List.length_drop, List.length_append, List.length_singleton]
  omega

theorem mem_of_mem_pushLast {n : Nat} {l : List Int} {x y : Int} (h : y ∈ pushLast n l x) : y ∈ l ∨ y = x := by
  simpa using List.mem_of_mem_drop h

/-- A settled gross is one of three samples of its kind (R64). -/
theorem stableMedian_eq_some {policy : ScalePolicy} {kind : Kind} {l : List Int} {g : Int}
    (h : stableMedian policy kind l = some g) : l.length = 3 ∧ g ∈ l := by
  unfold stableMedian at h
  split at h
  next a b c =>
    split at h
    · split_ifs at h
      obtain rfl := Option.some.inj h
      refine ⟨rfl, ?_⟩
      rcases median3_mem a b c with heq | heq | heq <;> simp [heq]
    · cases h
  · cases h

/-- A forced tare is one of the recent samples, or the present tare (R70). -/
theorem forcedTare_mem (recent : List Int) (tare : Int) :
    forcedTare recent tare ∈ recent ∨ forcedTare recent tare = tare := by
  unfold forcedTare
  split
  next a b c =>
    left
    rcases median3_mem a b c with heq | heq | heq <;> simp [heq]
  · rcases recent.eq_nil_or_concat with rfl | ⟨front, last, rfl⟩
    · exact .inr rfl
    · left
      simp

/-- The masses that the promise speaks of. -/
@[simp] abbrev Weigh.SameMasses (t s : Weigh) : Prop :=
  t.history = s.history ∧ t.recent = s.recent ∧ t.settled = s.settled ∧ t.reported = s.reported ∧ t.tare = s.tare

theorem Weigh.sound_congr {t s : Weigh} (h : t.SameMasses s) (hs : s.Sound) : t.Sound := by
  obtain ⟨hhistory, hrecent, hsettled, hreported, htare⟩ := h
  simpa only [Weigh.Sound, hhistory, hrecent, hsettled, hreported, htare] using hs

/-- Stages 1 and 2 of a sample keep the masses in range (R61, R63, R64, R66). -/
theorem Weigh.sound_join {w : Weigh} (hw : w.Sound) (corrected : Int) : (w.join corrected).Sound := by
  obtain ⟨-, -, hhistory, hrecent, -, hreported, htare, -⟩ := hw
  have hg : grossInRange (clampInt Config.grossMin Config.grossMax corrected) := clampInt_within (by decide) _
  have hnew : ∀ g ∈ (w.join corrected).history, grossInRange g := by
    intro g hmem
    rcases mem_of_mem_pushLast hmem with h | rfl
    · split_ifs at h
      · exact hhistory g h
      · cases h
    · exact hg
  refine ⟨pushLast_length_le .., pushLast_length_le .., hnew, fun g hmem => ?_, fun g hsettled => ?_, hreported, htare,
    fun h => ?_⟩
  · rcases mem_of_mem_pushLast hmem with h | rfl
    · exact hrecent g h
    · exact hg
  · exact hnew g (stableMedian_eq_some hsettled).2
  · obtain ⟨g, hsettled⟩ := Option.isSome_iff_exists.mp h
    exact (stableMedian_eq_some hsettled).1

theorem Weigh.sound_takeTare {w : Weigh} (hw : w.Sound) : w.takeTare.Sound := by
  obtain ⟨hlength, hlengths, hhistory, hrecent, hsettled, hreported, htare, hfull⟩ := hw
  unfold Weigh.takeTare
  split
  next g _ hg _ => exact ⟨hlength, hlengths, hhistory, hrecent, hsettled, hreported, hsettled g hg, hfull⟩
  · exact ⟨hlength, hlengths, hhistory, hrecent, hsettled, hreported, htare, hfull⟩

theorem Weigh.sound_report {w : Weigh} {g : Int} (hg : grossInRange g) (hw : w.Sound) : (w.report g).Sound := by
  obtain ⟨hlength, hlengths, hhistory, hrecent, hsettled, -, htare, hfull⟩ := hw
  refine ⟨hlength, hlengths, hhistory, hrecent, hsettled, ?_, htare, hfull⟩
  cases h : w.settled with
  | none => simpa [Weigh.report, h] using hg
  | some m => simpa [Weigh.report, h] using hsettled m h

theorem State.validSample_weigh (s : State) (codes : List (Tri × Tri)) :
    let corrected := correctedGross s.weigh.cal s.thermal.cell (grossOf s.weigh.cal (burstValue codes))
    let g := clampInt Config.grossMin Config.grossMax corrected
    (s.validSample codes).weigh.SameMasses (((s.weigh.join corrected).takeTare).report g) := by
  simp [State.validSample]

theorem State.validSample_sound {s : State} (codes : List (Tri × Tri)) (hs : s.weigh.Sound) :
    (s.validSample codes).weigh.Sound := by
  refine Weigh.sound_congr (s.validSample_weigh codes) ?_
  exact Weigh.sound_report (clampInt_within (by decide) _) (Weigh.sound_takeTare (Weigh.sound_join hs _))

/-- A unit without masses but for reported gross and tare. -/
theorem Weigh.sound_cleared {w : Weigh} (hhistory : w.history = []) (hrecent : ∀ g ∈ w.recent, grossInRange g)
    (hlength : w.recent.length ≤ 3) (hsettled : w.settled = none) (hreported : grossInRange w.reported)
    (htare : grossInRange w.tare) : w.Sound :=
  ⟨by simp [hhistory], hlength, by simp [hhistory], hrecent, by simp [hsettled], hreported, htare, by simp [hsettled]⟩

theorem weighSound_rule {i : Instr} {rule : State → Executed} (hi : ruleOf i = some rule) {s : State}
    (hs : s.weigh.Sound) : (rule s).1.weigh.Sound := by
  by_cases hacts : commandsStores i = true
  swap
  · obtain ⟨-, -, -, hhistory, hrecent, hsettled, hreported, htare, -⟩ := rule_stores hi (by simpa using hacts) s
    exact Weigh.sound_congr ⟨hhistory, hrecent, hsettled, hreported, htare⟩ hs
  cases i <;> simp only [commandsStores, Bool.false_eq_true] at hacts <;>
    simp only [ruleOf, Option.some.injEq] at hi <;> subst hi
  case setLineFunction => exact inConfig_keeps (P := fun u => u.weigh.Sound) (fun _ => by simpa using hs) hs
  case setLineLevel => simpa using hs
  case loadScaleCalibration =>
    refine inConfig_keeps (P := fun u => u.weigh.Sound) (fun _ => ?_) hs
    obtain ⟨-, -, -, -, -, hreported, htare, -⟩ := hs
    exact Weigh.sound_cleared (by simp) (by simp) (by simp) (by simp) (by simpa using hreported) (by simpa using htare)
  case start =>
    refine Weigh.sound_congr ?_ hs
    simp only [startRule]
    split_ifs <;> simp [runReply, State.startRun]
  case warmReset =>
    have hmasses : (warmResetRule s).1.weigh.SameMasses s.weigh.warm := by simp [warmResetRule, State.warmReset]
    exact Weigh.sound_congr hmasses
      (Weigh.sound_cleared rfl (by simp [Weigh.warm]) (by simp [Weigh.warm]) rfl (show grossInRange 0 by decide)
        (show grossInRange 0 by decide))

theorem weighSound_event {i : Instr} (hi : ruleOf i = none) {s t : State} (ht : exec i s = .next t)
    (hs : s.weigh.Sound) : t.weigh.Sound := by
  by_cases hacts : actsOnStores i = true
  swap
  · obtain ⟨-, -, -, hhistory, hrecent, hsettled, hreported, htare, -⟩ := event_stores hi (by simpa using hacts) ht
    exact Weigh.sound_congr ⟨hhistory, hrecent, hsettled, hreported, htare⟩ hs
  by_cases hplain : isPlain i = true
  · obtain ⟨-, -, -, -, -, -, -, -, -, -, hmasses⟩ := samePlainly_of_isPlain hplain ht
    exact Weigh.sound_congr hmasses hs
  cases i <;> simp only [isPlain, actsOnStores, Bool.false_eq_true, not_true_eq_false] at hplain hacts <;>
    obtain rfl := Host.Outcome.next.inj ht
  case powerOnReset => exact show Weigh.reset.Sound by decide
  case scaleBurstComplete =>
    split
    · dsimp only
      split_ifs
      · obtain ⟨-, hlength, -, hrecent, -, hreported, htare, -⟩ := hs
        exact Weigh.sound_cleared rfl hrecent hlength rfl hreported htare
      · exact State.validSample_sound
          (s := { s.reach _ with converter := { (s.reach _).converter with work := .free } }) _ hs
    · exact hs
  case tareForced =>
    split
    · obtain ⟨hlength, hlengths, hhistory, hrecent, hsettled, hreported, htare, hfull⟩ := hs
      have hforced : grossInRange (forcedTare s.weigh.recent s.weigh.tare) := by
        rcases forcedTare_mem s.weigh.recent s.weigh.tare with h | h
        · exact hrecent _ h
        · rwa [h]
      exact Weigh.sound_congr (s := { s.weigh with tare := forcedTare s.weigh.recent s.weigh.tare })
        (by unfold State.forceTare; dsimp only; split_ifs <;> simp)
        ⟨hlength, hlengths, hhistory, hrecent, hsettled, hreported, hforced, hfull⟩
    · exact hs

/-! ## The ingredient log -/

theorem IngredientLog.balanced_congr {t s : IngredientLog} (h : t.Kept s) (hs : s.Balanced) : t.Balanced := by
  obtain ⟨hrefs, hentries, -, -, hdropped⟩ := h
  simpa only [IngredientLog.Balanced, hrefs, hentries, hdropped] using hs

theorem IngredientLog.numbered_congr {t s : IngredientLog} (h : t.Kept s) (hs : s.Numbered) : t.Numbered := by
  obtain ⟨-, hentries, hnext, hexhausted, -⟩ := h
  simpa only [IngredientLog.Numbered, hentries, hnext, hexhausted] using hs

theorem sumInt_append_singleton (l : List Int) (x : Int) : sumInt (l ++ [x]) = sumInt l + x := by
  induction l with
  | nil => simp [sumInt]
  | cons a l ih =>
    have hcons (b : Int) (m : List Int) : sumInt (b :: m) = b + sumInt m := rfl
    rw [List.cons_append, hcons, hcons, ih]
    omega

/-- Room made keeps the sum of the deltas, with what is given up (R88). -/
theorem makeRoom_sum (l : List Entry) :
    (makeRoom l).2 + sumInt ((makeRoom l).1.map Entry.delta) = sumInt (l.map Entry.delta) := by
  unfold makeRoom
  split
  · split_ifs
    · rfl
    · simp
  · rfl

/-- A log that takes a value either moves its references alone, or drops the delta, or joins the entry (R82 to
R88). -/
theorem IngredientLog.take_cases (log : IngredientLog) (c : LogContext) (m : Int) :
    (log.refs = none ∧ log.take c m = ({ log with refs := some ⟨m, m, m⟩ }, none)) ∨
    ∃ r, log.refs = some r ∧
      ((r.entryKind c m = none ∧ log.take c m = ({ log with refs := some { r with last := m } }, none)) ∨
      ∃ kind, r.entryKind c m = some kind ∧
        let moved : IngredientLog := { log with refs := some { r with baseline := m, last := m } }
        let e : Entry :=
          { number := log.nextNumber, step := c.cursor, kind := kind, delta := m - r.baseline, gross := m,
            time := c.clock, temp := c.temp }
        (log.exhausted = true ∧
          log.take c m = ({ moved with dropped := log.dropped + (m - r.baseline) }, none)) ∨
        (log.exhausted = false ∧ log.take c m = (moved.join e, some e))) := by
  unfold IngredientLog.take
  cases hrefs : log.refs with
  | none => exact .inl ⟨rfl, rfl⟩
  | some r =>
    refine .inr ⟨r, rfl, ?_⟩
    dsimp only
    cases hkind : r.entryKind c m with
    | none => exact .inl ⟨rfl, rfl⟩
    | some kind =>
      refine .inr ⟨kind, rfl, ?_⟩
      cases hexhausted : log.exhausted with
      | true => exact .inl ⟨rfl, by simp⟩
      | false => exact .inr ⟨rfl, by simp⟩

theorem IngredientLog.take_balanced {log : IngredientLog} (c : LogContext) (m : Int) (h : log.Balanced) :
    (log.take c m).1.Balanced := by
  obtain ⟨hbalance, hempty⟩ := h
  rcases log.take_cases c m with ⟨hnone, heq⟩ | ⟨r, hr, ⟨-, heq⟩ | ⟨kind, -, ⟨-, heq⟩ | ⟨-, heq⟩⟩⟩ <;> rw [heq]
  · obtain ⟨hentries, hdropped⟩ := hempty hnone
    exact ⟨by rintro x ⟨⟩; simp [hentries, hdropped, sumInt], by simp⟩
  · exact ⟨by rintro x ⟨⟩; exact hbalance r hr, by simp⟩
  · refine ⟨?_, by simp⟩
    rintro x ⟨⟩
    have := hbalance r hr
    dsimp only
    omega
  · refine ⟨?_, by simp [IngredientLog.join]⟩
    rintro x ⟨⟩
    have := hbalance r hr
    have hroom := makeRoom_sum log.entries
    simp only [IngredientLog.join, List.map_append, List.map_cons, List.map_nil, sumInt_append_singleton]
    omega

/-- The number after a record joined: the next one, or the exhausted flag with the last (R87). -/
theorem IngredientLog.join_next (log : IngredientLog) (e : Entry) :
    (log.nextNumber < 65535 ∧ (log.join e).nextNumber = log.nextNumber + 1 ∧ (log.join e).exhausted = false) ∨
    (65535 ≤ log.nextNumber ∧ (log.join e).nextNumber = 65535 ∧ (log.join e).exhausted = true) := by
  rcases Nat.lt_or_ge log.nextNumber 65535 with hlt | hge
  · simp [IngredientLog.join, Config.lastEntryNumber, hlt, Nat.not_le.mpr hlt]
  · simp [IngredientLog.join, Config.lastEntryNumber, hge, Nat.not_lt.mpr hge]

/-- Room made leaves at most 95 consecutive numbers, up to the same last one (R88). -/
theorem makeRoom_numbers {l : List Entry} {next : Nat} (hlength : l.length ≤ 96) (hbelow : l.length < next)
    (hnumbers : l.map Entry.number = (List.range l.length).map fun i => next - l.length + i) :
    (makeRoom l).1.length ≤ 95 ∧ (makeRoom l).1.length < next ∧
    (makeRoom l).1.map Entry.number =
      (List.range (makeRoom l).1.length).map fun i => next - (makeRoom l).1.length + i := by
  cases l with
  | nil => exact ⟨by simp [makeRoom], hbelow, rfl⟩
  | cons oldest rest =>
    rw [List.length_cons] at hlength hbelow
    by_cases hfull : 96 ≤ rest.length + 1
    · have hroom : (makeRoom (oldest :: rest)).1 = rest := by simp [makeRoom, Config.logPlaces, hfull]
      rw [hroom]
      refine ⟨by omega, by omega, ?_⟩
      rw [List.map_cons, List.length_cons, List.range_succ_eq_map, List.map_cons, List.map_map] at hnumbers
      rw [(List.cons.inj hnumbers).2]
      refine List.map_congr_left fun i _ => ?_
      simp only [Function.comp_apply]
      omega
    · have hroom : (makeRoom (oldest :: rest)).1 = oldest :: rest := by simp [makeRoom, Config.logPlaces, hfull]
      rw [hroom]
      exact ⟨by rw [List.length_cons]; omega, hbelow, hnumbers⟩

/-- An entry joins with the next number (R87, R88). -/
theorem IngredientLog.join_numbered {log : IngredientLog} {e : Entry} (hexhausted : log.exhausted = false)
    (he : e.number = log.nextNumber) (h : log.Numbered) : (log.join e).Numbered := by
  obtain ⟨hlength, hbelow, ⟨hleast, hgreatest⟩, -, hnumbers⟩ := h
  simp only [hexhausted, Bool.toNat_false, Nat.add_zero] at hbelow hnumbers
  obtain ⟨hshort, hunder, hkept⟩ := makeRoom_numbers hlength hbelow hnumbers
  have hnext := log.join_next e
  have hsum : (log.join e).nextNumber + (log.join e).exhausted.toNat = log.nextNumber + 1 := by
    rcases hnext with ⟨-, hn, hx⟩ | ⟨hlast, hn, hx⟩ <;> rw [hn, hx]
    · rfl
    · simp only [Bool.toNat_true]
      omega
  have hentries : (log.join e).entries.length = (makeRoom log.entries).1.length + 1 := by simp [IngredientLog.join]
  refine ⟨by omega, by omega, ?_, fun h => ?_, ?_⟩
  · rcases hnext with ⟨hbefore, hn, -⟩ | ⟨-, hn, -⟩ <;> rw [hn] <;> constructor <;> omega
  · rcases hnext with ⟨-, -, hx⟩ | ⟨-, hn, -⟩
    · rw [hx] at h
      cases h
    · exact hn
  · have heq : log.nextNumber + 1 - ((makeRoom log.entries).1.length + 1) =
        log.nextNumber - (makeRoom log.entries).1.length := by omega
    rw [hsum, hentries, List.range_succ, List.map_append, heq, ← hkept]
    simp only [IngredientLog.join, List.map_append, List.map_cons, List.map_nil, he]
    congr 2
    omega

theorem IngredientLog.take_numbered {log : IngredientLog} (c : LogContext) (m : Int) (h : log.Numbered) :
    (log.take c m).1.Numbered := by
  rcases log.take_cases c m with ⟨-, heq⟩ | ⟨r, -, ⟨-, heq⟩ | ⟨kind, -, ⟨-, heq⟩ | ⟨hexhausted, heq⟩⟩⟩ <;> rw [heq]
  · exact h
  · exact h
  · exact h
  · exact IngredientLog.join_numbered hexhausted rfl h

/-- A promise about the log that its closing and opening keep, that the decision keeps, and that a cleared log
meets. -/
structure KeptByLog (P : IngredientLog → Prop) : Prop where
  congr : ∀ {t s : IngredientLog}, t.Kept s → P s → P t
  take : ∀ {log : IngredientLog} (c : LogContext) (m : Int), P log → P (log.take c m).1
  cleared : P .cleared

theorem KeptByLog.serveLog {P : IngredientLog → Prop} (hP : KeptByLog P) {s : State} (hs : P s.log) :
    P s.serveLog.log := by
  unfold State.serveLog State.logSettled
  split
  · split_ifs
    · dsimp only
      split
      · exact hP.take _ _ hs
      · exact hP.take _ _ hs
    · exact hs
  · exact hs

theorem KeptByLog.validSample {P : IngredientLog → Prop} (hP : KeptByLog P) {s : State} (codes : List (Tri × Tri))
    (hs : P s.log) : P (s.validSample codes).log := by
  have htests (u : State) (g : Int) (hu : P u.log) : P ((u.testNear g).testWeight).log := hP.congr (by simp) hu
  exact htests _ _ (hP.serveLog hs)

theorem KeptByLog.rule {P : IngredientLog → Prop} (hP : KeptByLog P) {i : Instr} {rule : State → Executed}
    (hi : ruleOf i = some rule) {s : State} (hs : P s.log) : P (rule s).1.log := by
  by_cases hacts : commandsStores i = true
  swap
  · obtain ⟨-, -, -, -, -, -, -, -, hlog⟩ := rule_stores hi (by simpa using hacts) s
    exact hP.congr hlog hs
  cases i <;> simp only [commandsStores, Bool.false_eq_true] at hacts <;>
    simp only [ruleOf, Option.some.injEq] at hi <;> subst hi
  case setLineFunction => exact inConfig_keeps (P := fun u => P u.log) (fun _ => by simpa using hs) hs
  case loadScaleCalibration => exact inConfig_keeps (P := fun u => P u.log) (fun _ => by simpa using hs) hs
  case setLineLevel => simpa using hs
  case start =>
    simp only [startRule]
    split_ifs
    · exact hs
    · exact hP.congr (s := .cleared) (by simp [runReply, State.startRun]) hP.cleared
    · exact hs
  case warmReset => exact hP.congr (s := .cleared) (by simp [warmResetRule, State.warmReset]) hP.cleared

theorem KeptByLog.event {P : IngredientLog → Prop} (hP : KeptByLog P) {i : Instr} (hi : ruleOf i = none) {s t : State}
    (ht : exec i s = .next t) (hs : P s.log) : P t.log := by
  by_cases hacts : actsOnStores i = true
  swap
  · obtain ⟨-, -, -, -, -, -, -, -, hlog⟩ := event_stores hi (by simpa using hacts) ht
    exact hP.congr hlog hs
  by_cases hplain : isPlain i = true
  · obtain ⟨-, -, -, -, -, -, -, hlog, -⟩ := samePlainly_of_isPlain hplain ht
    rwa [hlog]
  cases i <;> simp only [isPlain, actsOnStores, Bool.false_eq_true, not_true_eq_false] at hplain hacts <;>
    obtain rfl := Host.Outcome.next.inj ht
  case powerOnReset => exact hP.cleared
  case scaleBurstComplete =>
    split
    · dsimp only
      split_ifs
      · exact hs
      · exact hP.validSample
          (s := { s.reach _ with converter := { (s.reach _).converter with work := .free } }) _ hs
    · exact hs
  case tareForced => split <;> simpa using hs

theorem KeptByLog.step {P : IngredientLog → Prop} (hP : KeptByLog P) {s t : State} (ht : step s = .next t)
    (hs : P s.log) : P t.log :=
  kept_by_step (P := fun u => P u.log) hP.rule hP.event (fun _ h => h) (fun _ h => h) ht hs

/-- Settles O10: a sample, a tare and the log's decision keep the masses and the log, and nothing else makes them. -/
theorem stepKeepsMassesAndLog : Obligations.StepKeepsMassesAndLog := by
  intro s t ht
  have hbalanced : KeptByLog IngredientLog.Balanced :=
    ⟨IngredientLog.balanced_congr, IngredientLog.take_balanced, by decide⟩
  have hnumbered : KeptByLog IngredientLog.Numbered :=
    ⟨IngredientLog.numbered_congr, IngredientLog.take_numbered, by decide⟩
  exact ⟨kept_by_step (P := fun u => u.weigh.Sound) weighSound_rule weighSound_event (fun _ h => h) (fun _ h => h) ht,
    hbalanced.step ht, hnumbered.step ht⟩

end Sys2Proof.Machine
end

section
/-! SUPPORT. Every notice list stays in order over every step, and what one offer does to a list (R166 to R174). -/

namespace Sys2Proof.Machine

/-! ## One list -/

theorem Notice.matches_iff {n m : Notice} : n.matches m = true ↔ m.kind = n.kind ∧ m.index = n.index := by
  simp [Notice.matches]

/-- An entry keeps its place when it coalesces (R170). -/
@[simp] theorem Notice.coalesce_place (n m : Notice) :
    (n.coalesce m).kind = m.kind ∧ (n.coalesce m).index = m.index := ⟨rfl, rfl⟩

theorem insertNotice_pairwise {n : Notice} {l : List Notice} (hnew : ∀ m ∈ l, n.matches m = false)
    (hl : l.Pairwise Notice.standsBefore) : (insertNotice n l).Pairwise Notice.standsBefore := by
  induction l with
  | nil => simp [insertNotice]
  | cons m rest ih =>
    obtain ⟨hm, hrest⟩ := List.pairwise_cons.mp hl
    have hdiffer : ¬ (m.kind = n.kind ∧ m.index = n.index) := by
      rw [← Notice.matches_iff, hnew m List.mem_cons_self]
      exact Bool.false_ne_true
    unfold insertNotice
    split_ifs with hpriority
    · refine List.pairwise_cons.mpr ⟨fun x hx => ?_, ih (fun x hx => hnew x (List.mem_cons_of_mem m hx)) hrest⟩
      rcases mem_insertNotice.mp hx with rfl | hx
      · exact ⟨hpriority, hdiffer⟩
      · exact hm x hx
    · refine List.pairwise_cons.mpr ⟨fun x hx => ⟨?_, fun hsame => ?_⟩, hl⟩
      · rcases List.mem_cons.mp hx with rfl | hx
        · omega
        · have := (hm x hx).1
          omega
      · have := hnew x hx
        simp [Notice.matches, hsame.1, hsame.2] at this

theorem NoticeList.offer_ordered {l : NoticeList} (hl : l.Ordered) (n : Notice) : (l.offer n).Ordered := by
  obtain ⟨hlength, horder⟩ := hl
  have hnew (h : ¬ (l.entries.any n.matches) = true) : ∀ m ∈ l.entries, n.matches m = false := by simpa using h
  unfold NoticeList.offer
  split_ifs with hknown hroom hdisplaces
  · refine ⟨by simpa using hlength, ?_⟩
    refine List.pairwise_map.mpr (horder.imp fun {x y} hxy => ?_)
    split_ifs <;> exact hxy
  · refine ⟨?_, insertNotice_pairwise (hnew hknown) horder⟩
    simpa [Config.noticePlaces] using Nat.succ_le_of_lt hroom
  · refine ⟨?_, insertNotice_pairwise (fun m hm => hnew hknown m (List.mem_of_mem_dropLast hm))
      (horder.sublist (List.dropLast_sublist _))⟩
    simp only [insertNotice_length, List.length_dropLast]
    omega
  · exact ⟨hlength, horder⟩

theorem NoticeList.receive_ordered {l : NoticeList} (hl : l.Ordered) (n : Notice) : (l.receive n).Ordered := by
  unfold NoticeList.receive
  split_ifs
  · exact NoticeList.offer_ordered hl n
  · exact hl

/-! ## The operations that send -/

theorem State.noticesOrdered_congr {s t : State} (h : t.notices = s.notices) (hs : s.NoticesOrdered) :
    t.NoticesOrdered := by
  simpa only [State.NoticesOrdered, h] using hs

theorem State.send_ordered {s : State} {kind : NoticeKind} {index : Option Nat} {value : Option NoticeValue}
    (hs : s.NoticesOrdered) : (s.send kind index value).NoticesOrdered := by
  obtain ⟨hconsole, hsafety, hlink, hservice⟩ := hs
  exact ⟨NoticeList.receive_ordered hconsole _, NoticeList.receive_ordered hsafety _,
    NoticeList.receive_ordered hlink _, NoticeList.receive_ordered hservice _⟩

/-- A notice is sent after an operation that sends none. -/
theorem State.send_ordered_of {s t : State} {kind : NoticeKind} {index : Option Nat} {value : Option NoticeValue}
    (h : t.notices = s.notices) (hs : s.NoticesOrdered) : (t.send kind index value).NoticesOrdered :=
  State.send_ordered (State.noticesOrdered_congr h hs)

section Operations

variable {s : State}

theorem State.addCauses_ordered (c : CauseSet) (hs : s.NoticesOrdered) : (s.addCauses c).NoticesOrdered := by
  unfold State.addCauses
  dsimp only
  split_ifs
  · exact hs
  · exact State.send_ordered_of (by simp) hs
  · exact State.send_ordered_of (by simp) hs

theorem State.examineRun_ordered (hs : s.NoticesOrdered) : s.examineRun.NoticesOrdered := by
  unfold State.examineRun
  dsimp only
  split_ifs
  · exact hs
  · exact State.addCauses_ordered _ hs
  · exact hs

theorem State.examineManual_ordered (hs : s.NoticesOrdered) : s.examineManual.NoticesOrdered := by
  unfold State.examineManual
  dsimp only
  split_ifs
  · exact State.send_ordered_of (by simp) hs
  · exact hs

theorem State.examine_ordered (hs : s.NoticesOrdered) : s.examine.NoticesOrdered :=
  State.examineManual_ordered (State.examineRun_ordered hs)

theorem State.announceStep_ordered (r : StepRecord) (hs : s.NoticesOrdered) : (s.announceStep r).NoticesOrdered := by
  have hbegun : (s.send .stepBegin (some s.run.cursor) none).NoticesOrdered := State.send_ordered hs
  unfold State.announceStep
  dsimp only
  split
  · exact State.send_ordered hbegun
  · exact hbegun

theorem State.enterStep_ordered (hs : s.NoticesOrdered) : s.enterStep.NoticesOrdered := by
  unfold State.enterStep
  split
  · exact State.examineRun_ordered (State.announceStep_ordered _ (State.noticesOrdered_congr (by simp) hs))
  · exact hs

theorem State.arrive_ordered (hs : s.NoticesOrdered) : s.arrive.NoticesOrdered := by
  unfold State.arrive
  split_ifs
  · exact State.addCauses_ordered _ hs
  · exact State.enterStep_ordered hs

theorem State.checkOvershoot_ordered (hs : s.NoticesOrdered) : s.checkOvershoot.NoticesOrdered := by
  unfold State.checkOvershoot
  split
  · split_ifs
    · exact State.send_ordered_of rfl hs
    · exact hs
  · exact hs

theorem State.finishRun_ordered (hs : s.NoticesOrdered) : s.finishRun.NoticesOrdered := by
  unfold State.finishRun
  refine State.noticesOrdered_congr rfl (State.send_ordered_of (s := s) ?_ hs)
  simp

theorem State.advance_ordered (hs : s.NoticesOrdered) : s.advance.NoticesOrdered :=
  State.examineRun_ordered (State.noticesOrdered_congr (s := s) (by simp) hs)

theorem State.proceed_ordered (hs : s.NoticesOrdered) : s.proceed.NoticesOrdered := by
  unfold State.proceed
  split_ifs
  · exact State.finishRun_ordered hs
  · exact State.arrive_ordered hs

theorem State.exitStep_ordered (e : EndReason) (hs : s.NoticesOrdered) : (s.exitStep e).NoticesOrdered := by
  have hclosed : (s.closeResult .completed (some e)).NoticesOrdered := State.noticesOrdered_congr (by simp) hs
  exact State.proceed_ordered (State.advance_ordered (State.send_ordered (State.checkOvershoot_ordered hclosed)))

theorem State.decideEnd_ordered (hs : s.NoticesOrdered) : s.decideEnd.NoticesOrdered := by
  unfold State.decideEnd
  split_ifs
  · split
    · exact State.exitStep_ordered _ hs
    · exact hs
  · exact hs

theorem State.latch_ordered (c : Condition) (hs : s.NoticesOrdered) : (s.latch c).NoticesOrdered := by
  unfold State.latch
  split
  · exact State.decideEnd_ordered (State.noticesOrdered_congr rfl hs)
  · exact hs

theorem State.skipResult_ordered (hs : s.NoticesOrdered) : s.skipResult.NoticesOrdered := by
  unfold State.skipResult
  split_ifs
  · exact State.send_ordered_of (by simp) hs
  · exact hs

theorem State.holdNext_ordered (hs : s.NoticesOrdered) : s.holdNext.NoticesOrdered :=
  State.addCauses_ordered _ hs

theorem State.skipStep_ordered (hs : s.NoticesOrdered) : s.skipStep.NoticesOrdered := by
  have hadvanced : s.skipResult.advance.NoticesOrdered := State.advance_ordered (State.skipResult_ordered hs)
  unfold State.skipStep
  dsimp only
  split_ifs
  · exact State.finishRun_ordered hadvanced
  · exact State.holdNext_ordered hadvanced
  · exact State.proceed_ordered hadvanced

theorem State.resumeRun_ordered (hs : s.NoticesOrdered) : s.resumeRun.NoticesOrdered := by
  unfold State.resumeRun
  dsimp only
  split_ifs
  · exact State.decideEnd_ordered (State.noticesOrdered_congr (s := s) (by simp) hs)
  · exact State.enterStep_ordered (State.noticesOrdered_congr (s := s) (by simp) hs)

theorem State.startRun_ordered (hs : s.NoticesOrdered) : s.startRun.NoticesOrdered :=
  State.arrive_ordered (State.noticesOrdered_congr (s := s) (by simp) hs)

theorem State.setStopLatch_ordered (hs : s.NoticesOrdered) : s.setStopLatch.NoticesOrdered := by
  unfold State.setStopLatch
  dsimp only
  split_ifs
  · exact hs
  · exact State.send_ordered_of (by simp) hs
  · exact State.noticesOrdered_congr (by simp) hs

theorem State.lapse_ordered (hs : s.NoticesOrdered) : s.lapse.NoticesOrdered := by
  unfold State.lapse
  dsimp only
  split_ifs
  · exact State.send_ordered_of (by simp) hs
  · exact State.send_ordered_of (by simp) hs
  · exact State.send_ordered_of (by simp) hs

theorem State.logSettled_ordered (m : Int) (hs : s.NoticesOrdered) : (s.logSettled m).NoticesOrdered := by
  unfold State.logSettled
  dsimp only
  split_ifs
  · split
    · exact State.send_ordered_of rfl hs
    · exact hs
  · exact hs

theorem State.validSample_ordered (codes : List (Tri × Tri)) (hs : s.NoticesOrdered) :
    (s.validSample codes).NoticesOrdered := by
  have hlog (u : State) (hu : u.NoticesOrdered) : u.serveLog.NoticesOrdered := by
    unfold State.serveLog
    split
    · exact State.logSettled_ordered _ hu
    · exact hu
  have hnear (u : State) (g : Int) (hu : u.NoticesOrdered) : (u.testNear g).NoticesOrdered := by
    unfold State.testNear
    split
    · dsimp only
      split_ifs
      · exact State.send_ordered_of rfl hu
      · exact hu
    · exact hu
  have hweight (u : State) (hu : u.NoticesOrdered) : u.testWeight.NoticesOrdered := by
    unfold State.testWeight
    split
    · split_ifs
      · exact State.latch_ordered _ hu
      · exact hu
    · exact hu
  exact hweight _ (hnear _ _ (hlog _ hs))

theorem State.forceTare_ordered (hs : s.NoticesOrdered) : s.forceTare.NoticesOrdered := by
  unfold State.forceTare
  dsimp only
  split_ifs
  · exact State.send_ordered_of rfl hs
  · exact State.send_ordered_of rfl hs

theorem State.baseReading_ordered (r : Reading) (hs : s.NoticesOrdered) : (s.baseReading r).NoticesOrdered := by
  unfold State.baseReading
  dsimp only
  split_ifs
  · exact State.examine_ordered (State.send_ordered_of (by simp) hs)
  · exact State.examine_ordered (State.noticesOrdered_congr (by simp) hs)

theorem State.elementReading_ordered (r : Reading) (hs : s.NoticesOrdered) : (s.elementReading r).NoticesOrdered := by
  unfold State.elementReading
  dsimp only
  split_ifs
  · exact State.send_ordered_of (by simp) hs
  · exact State.send_ordered_of (by simp) hs
  · exact State.noticesOrdered_congr (by simp) hs

theorem State.setMains_ordered (m : MainsState) (hs : s.NoticesOrdered) : (s.setMains m).NoticesOrdered := by
  have hsend (u : State) (hu : u.NoticesOrdered) : (u.sendMains m).NoticesOrdered := by
    unfold State.sendMains
    split
    · exact State.send_ordered hu
    · exact State.send_ordered hu
    · exact hu
  unfold State.setMains
  dsimp only
  split_ifs
  · exact hs
  · exact State.examine_ordered (hsend _ (State.noticesOrdered_congr (by simp) hs))
  · exact State.examine_ordered (hsend _ (State.noticesOrdered_congr (by simp) hs))

theorem State.deliver_ordered (channel : Channel) (live : Bool) (code : Nat) (hs : s.NoticesOrdered) :
    (s.deliver channel live code).NoticesOrdered := by
  cases channel with
  | mains =>
    simp only [State.deliver, State.mainsReading]
    split_ifs
    · exact State.setMains_ordered _ hs
    · exact hs
  | base => exact State.baseReading_ordered _ hs
  | element => exact State.elementReading_ordered _ hs
  | cell => exact State.noticesOrdered_congr rfl hs
  | motorI =>
    obtain ⟨power, hpower⟩ := s.motorReading_eq code
    exact State.noticesOrdered_congr (by simp [State.deliver, hpower]) hs

theorem State.updateBlade_ordered (hs : s.NoticesOrdered) : s.updateBlade.NoticesOrdered :=
  State.noticesOrdered_congr (by simp) hs

theorem State.recover_ordered (hs : s.NoticesOrdered) : s.recover.NoticesOrdered :=
  State.noticesOrdered_congr (by simp) hs

theorem State.requestMains_ordered (hs : s.NoticesOrdered) : s.requestMains.NoticesOrdered :=
  State.noticesOrdered_congr (by simp) hs

theorem State.grantWindow_ordered (hs : s.NoticesOrdered) : s.grantWindow.NoticesOrdered :=
  State.noticesOrdered_congr (by simp) hs

theorem State.derate_ordered (hs : s.NoticesOrdered) : s.derate.NoticesOrdered := by
  unfold State.derate
  dsimp only
  split_ifs
  · exact State.updateBlade_ordered (State.send_ordered_of rfl hs)
  all_goals exact State.noticesOrdered_congr rfl hs

theorem State.endWindow_ordered (hs : s.NoticesOrdered) : s.endWindow.NoticesOrdered := by
  unfold State.endWindow
  exact State.recover_ordered (State.derate_ordered (State.noticesOrdered_congr rfl hs))

theorem State.testTemp_ordered (hs : s.NoticesOrdered) : s.testTemp.NoticesOrdered := by
  unfold State.testTemp
  split
  · split_ifs
    · exact State.latch_ordered _ hs
    · exact hs
  · exact hs

theorem State.startWindow_ordered (hs : s.NoticesOrdered) : s.startWindow.NoticesOrdered := by
  unfold State.startWindow
  exact State.grantWindow_ordered (State.testTemp_ordered (State.requestMains_ordered (State.noticesOrdered_congr rfl hs)))

theorem State.beginCycle_ordered (hs : s.NoticesOrdered) : s.beginCycle.NoticesOrdered := by
  unfold State.beginCycle
  split
  · split_ifs
    · exact State.noticesOrdered_congr rfl hs
    · exact State.startWindow_ordered (State.endWindow_ordered hs)
  · exact State.startWindow_ordered hs

theorem State.sampleLine_ordered (l : SlowLine) (level : Bool) (hs : s.NoticesOrdered) :
    (s.sampleLine l level).NoticesOrdered := by
  unfold State.sampleLine
  dsimp only
  split_ifs
  · exact hs
  · exact State.examine_ordered (State.send_ordered_of (by simp) hs)

theorem State.endRest_ordered (hs : s.NoticesOrdered) : s.endRest.NoticesOrdered :=
  State.noticesOrdered_congr (by simp) hs

theorem State.armLease_ordered (period : Nat) (locked : Bool) (hs : s.NoticesOrdered) :
    (s.armLease period locked).NoticesOrdered := by
  unfold State.armLease
  exact State.examine_ordered (State.noticesOrdered_congr (s := s) (by simp [State.loadLease]) hs)

theorem State.disarmLease_ordered (hs : s.NoticesOrdered) : s.disarmLease.NoticesOrdered := by
  unfold State.disarmLease
  exact State.examine_ordered (State.noticesOrdered_congr (s := s) (by simp) hs)

theorem State.answerStall_ordered (hs : s.NoticesOrdered) : s.answerStall.NoticesOrdered := by
  unfold State.answerStall
  split
  · exact State.addCauses_ordered _ hs
  · split_ifs
    · exact State.noticesOrdered_congr (by simp) hs
    · exact State.noticesOrdered_congr (by simp) hs
  all_goals exact hs

end Operations

/-! ## Commands and events -/

theorem PerPort.ordered_set {l : PerPort NoticeList} {s : State} (p : Port) {m : NoticeList} (hm : m.Ordered)
    (hl : State.NoticesOrdered { s with notices := l }) : State.NoticesOrdered { s with notices := l.set p m } := by
  obtain ⟨hconsole, hsafety, hlink, hservice⟩ := hl
  cases p
  · exact ⟨hm, hsafety, hlink, hservice⟩
  · exact ⟨hconsole, hm, hlink, hservice⟩
  · exact ⟨hconsole, hsafety, hm, hservice⟩
  · exact ⟨hconsole, hsafety, hlink, hm⟩

theorem State.NoticesOrdered.get {s : State} (hs : s.NoticesOrdered) (p : Port) : (s.notices.get p).Ordered := by
  obtain ⟨hconsole, hsafety, hlink, hservice⟩ := hs
  cases p <;> assumption

theorem clearsKey_ordered {rule : State → Executed} {s : State} (h : (rule s).1.NoticesOrdered) :
    (clearsKey rule s).1.NoticesOrdered := h

theorem noticesOrdered_rule {i : Instr} {rule : State → Executed} (hi : ruleOf i = some rule) {s : State}
    (hs : s.NoticesOrdered) : (rule s).1.NoticesOrdered := by
  cases i <;> simp only [ruleOf, Option.some.injEq, reduceCtorEq] at hi <;> subst hi
  case takeNotice p =>
    simp only [takeNoticeRule]
    split
    · exact hs
    · obtain ⟨hlength, horder⟩ := hs.get p
      refine PerPort.ordered_set p ⟨?_, horder.sublist (List.tail_sublist _)⟩ hs
      simp only [NoticeList.afterTake, List.length_tail]
      omega
  case setSubscription p marks => exact PerPort.ordered_set p (hs.get p) hs
  case pause =>
    simp only [pauseRule]
    split_ifs
    · exact State.addCauses_ordered _ hs
    · exact hs
  case confirm =>
    simp only [confirmRule]
    split_ifs
    · exact State.latch_ordered _ hs
    · exact hs
    · exact hs
  case start =>
    simp only [startRule]
    split_ifs
    · exact hs
    · exact State.startRun_ordered hs
    · exact hs
  case resume =>
    simp only [resumeRule]
    split_ifs
    · exact hs
    · exact State.resumeRun_ordered hs
    · exact hs
  case skip =>
    simp only [skipRule]
    split_ifs
    · exact State.skipStep_ordered hs
    · exact hs
  case warmReset =>
    have hnotices : (warmResetRule s).1.notices = s.notices.map NoticeList.warm := by
      simp [warmResetRule, State.warmReset]
    have hwarm (l : NoticeList) : l.warm.Ordered := ⟨Nat.zero_le _, List.Pairwise.nil⟩
    simp only [State.NoticesOrdered, hnotices]
    exact ⟨hwarm _, hwarm _, hwarm _, hwarm _⟩
  case leaseArm =>
    refine clearsKey_ordered ?_
    simp only [leaseArmRule]
    split_ifs
    · exact hs
    · exact hs
    · exact State.armLease_ordered _ _ hs
  case leaseDisarm =>
    refine clearsKey_ordered ?_
    simp only [leaseDisarmRule]
    split_ifs
    · exact hs
    · exact hs
    · exact State.disarmLease_ordered hs
  case safetyStop => exact clearsKey_ordered (rule := safetyStopRule) (State.setStopLatch_ordered hs)
  all_goals refine State.noticesOrdered_congr ?_ hs
  case abort =>
    simp only [abortRule]
    split <;> simp [runReply]
  case enterConfig =>
    simp only [enterConfigRule]
    split <;> simp [runReply]
  case manualSet =>
    simp only [manualSetRule]
    split_ifs <;> simp [runReply]
  case manualStop =>
    simp only [manualStopRule]
    split_ifs <;> simp [runReply]
  case leaveConfig =>
    simp only [leaveConfigRule, inConfig]
    split_ifs <;> simp [runReply]
  case putStep =>
    rcases putStepRule_cases _ _ s with heq | ⟨r, -, -, -, -, -, ⟨-, heq⟩ | ⟨-, heq⟩⟩ <;> rw [heq]
    simp
  case deleteStep =>
    rcases deleteStepRule_cases _ s with heq | ⟨-, -, -, heq⟩ <;> rw [heq]
    dsimp only
    split_ifs <;> simp
  case clearProgram =>
    rcases clearProgramRule_cases s with heq | ⟨-, -, heq⟩ <;> rw [heq]
    simp
  case safetyClear =>
    simp only [clearsKey_fst, safetyClearRule]
    split_ifs <;> simp
  case safetyLimit =>
    simp only [clearsKey_fst, safetyLimitRule]
    split_ifs <;> simp
  case setAcceptance => exact inConfig_field State.notices (by simp)
  case setService => exact inConfig_field State.notices (by simp)
  case setBudget => exact inConfig_field State.notices (by simp)
  case setLineFunction => exact inConfig_field State.notices (by simp)
  case setLineFilter => exact inConfig_field State.notices (by simp)
  case setScalePolicy => exact inConfig_field State.notices (by simp)
  case loadScaleCalibration => exact inConfig_field State.notices (by simp)
  case loadHeaterData => exact inConfig_field State.notices (by simp)
  case loadThermistorTableFirst => exact inConfig_field State.notices (by simp)
  case loadThermistorTableSecond => exact inConfig_field State.notices (by simp)
  all_goals simp

theorem noticesOrdered_event {i : Instr} (hi : ruleOf i = none) {s t : State} (ht : exec i s = .next t)
    (hs : s.NoticesOrdered) : t.NoticesOrdered := by
  by_cases hplain : isPlain i = true
  · exact State.noticesOrdered_congr (by simp [samePlainly_of_isPlain hplain ht]) hs
  cases i <;> simp only [ruleOf, isPlain, reduceCtorEq, not_true_eq_false] at hi hplain <;>
    obtain rfl := Host.Outcome.next.inj ht
  case powerOnReset a n => exact State.noticesOrdered_congr (s := State.reset) rfl (by decide)
  case stopNReleased => exact hs
  case stopNAsserted => exact State.setStopLatch_ordered hs
  case lineFilterSample =>
    exact State.sampleLine_ordered _ _ (State.sampleLine_ordered _ _ (State.sampleLine_ordered _ _ hs))
  case mainsZeroCrossing =>
    split
    · dsimp only
      split_ifs
      · exact State.beginCycle_ordered hs
      · exact hs
    · exact hs
  case mainsLossTimeout =>
    split
    · exact State.setMains_ordered _ (State.noticesOrdered_congr (by simp) hs)
    · exact hs
  case scaleBurstComplete =>
    split
    · dsimp only
      split_ifs
      · exact hs
      · exact State.validSample_ordered (s := { s.reach _ with converter := _ }) _ hs
    · exact hs
  case conversionComplete =>
    split
    · exact State.deliver_ordered (s := { s.reach _ with converter := _ }) _ _ _ hs
    · exact hs
  case tareForced =>
    split
    · exact State.forceTare_ordered hs
    · exact hs
  case timeDone =>
    split_ifs
    · exact State.latch_ordered _ hs
    · exact hs
  case overdue =>
    split_ifs
    · exact State.addCauses_ordered _ hs
    · exact hs
  case stall =>
    split
    · exact State.endRest_ordered (State.answerStall_ordered (State.send_ordered_of (s := s) rfl hs))
    · exact hs
  case leaseTick =>
    split_ifs
    · dsimp only
      split_ifs
      · exact hs
      · exact State.lapse_ordered hs
    · exact hs
  case leaseLapse =>
    split_ifs
    · exact State.lapse_ordered hs
    · exact hs
  case lockedLeaseLapse =>
    split_ifs
    · exact State.lapse_ordered hs
    · exact hs

/-! ## What one offer does -/

theorem NoticeList.any_matches_iff {l : NoticeList} {n : Notice} :
    l.entries.any n.matches = true ↔ ∃ m ∈ l.entries, m.kind = n.kind ∧ m.index = n.index := by
  simp [Notice.matches_iff]

theorem NoticeList.offer_known {l : NoticeList} {n m : Notice} {before after : List Notice}
    (hl : l.entries = before ++ m :: after) (hm : m.kind = n.kind ∧ m.index = n.index)
    (hothers : ∀ x ∈ before ++ after, ¬ (x.kind = n.kind ∧ x.index = n.index)) :
    l.offer n = { l with entries := before ++ { m with count := min 255 (m.count + 1), value := n.value } :: after } := by
  have hkept (x : Notice) (hx : x ∈ before ++ after) : (if n.matches x then n.coalesce x else x) = x :=
    if_neg (by simpa [Notice.matches_iff] using hothers x hx)
  have hmatches : n.matches m = true := Notice.matches_iff.mpr hm
  have hmap (part : List Notice) (hpart : ∀ x ∈ part, x ∈ before ++ after) :
      (part.map fun x => if n.matches x then n.coalesce x else x) = part :=
    (List.map_congr_left fun x hx => hkept x (hpart x hx)).trans part.map_id
  have hentries : (l.entries.map fun x => if n.matches x then n.coalesce x else x) =
      before ++ { m with count := min 255 (m.count + 1), value := n.value } :: after := by
    rw [hl, List.map_append, List.map_cons, hmap before fun x hx => List.mem_append_left _ hx,
      hmap after fun x hx => List.mem_append_right _ hx, if_pos hmatches]
    rfl
  have hany : l.entries.any n.matches = true := NoticeList.any_matches_iff.mpr ⟨m, by simp [hl], hm⟩
  rw [NoticeList.offer, if_pos hany, hentries]

/-- A record goes behind the last entry of its priority or higher (R169). -/
theorem insertNotice_split {n : Notice} {before after : List Notice}
    (hbefore : ∀ m ∈ before, n.kind.priority ≤ m.kind.priority)
    (hafter : ∀ m ∈ after.head?, m.kind.priority < n.kind.priority) :
    insertNotice n (before ++ after) = before ++ n :: after := by
  induction before with
  | nil =>
    cases after with
    | nil => rfl
    | cons m rest =>
      have hm : ¬ n.kind.priority ≤ m.kind.priority := Nat.not_le.mpr (hafter m rfl)
      simp [insertNotice, hm]
  | cons m rest ih =>
    have hm : n.kind.priority ≤ m.kind.priority := hbefore m List.mem_cons_self
    simp only [List.cons_append, insertNotice, if_pos hm]
    rw [ih fun x hx => hbefore x (List.mem_cons_of_mem m hx)]

theorem NoticeList.offer_unknown {l : NoticeList} {n : Notice}
    (hnew : ¬ ∃ m ∈ l.entries, m.kind = n.kind ∧ m.index = n.index) : l.offer n =
      if l.entries.length < 12 then { l with entries := insertNotice n l.entries }
      else if displaces n l.entries then { l with entries := insertNotice n l.entries.dropLast, lost := true }
      else { l with lost := true } := by
  rw [← NoticeList.any_matches_iff] at hnew
  rw [NoticeList.offer, if_neg hnew]
  rfl

theorem displaces_iff {n last : Notice} {l : List Notice} (hlast : last ∈ l.getLast?) :
    displaces n l = true ↔ last.kind.priority < n.kind.priority := by
  rw [Option.mem_def] at hlast
  simp [displaces, hlast]

/-- An offer leaves an entry in the list (R174). -/
theorem NoticeList.offer_ne_nil (l : NoticeList) (n : Notice) : (l.offer n).entries ≠ [] := by
  have hinsert (m : List Notice) : insertNotice n m ≠ [] := by
    intro h
    simpa using congrArg List.length h
  unfold NoticeList.offer
  split_ifs with hknown hroom hdisplaces
  · intro h
    rw [List.map_eq_nil_iff.mp h] at hknown
    cases hknown
  · exact hinsert _
  · exact hinsert _
  · intro h
    exact hroom (by simp [show l.entries = [] from h, Config.noticePlaces])

theorem NoticeList.receive_subscribed {l : NoticeList} {n : Notice}
    (h : l.subscription.getLsbD n.kind.code = true) : l.receive n = l.offer n := by
  simp [NoticeList.receive, h]

theorem State.attention_iff {s : State} {p : Port} (hp : p ≠ .service) :
    s.attention p = true ↔ (s.notices.get p).entries ≠ [] := by
  simp [State.attention, hp]

/-- Settles O11: every operation that sends keeps the lists in order, and one offer is taken apart by its cases. -/
theorem stepKeepsNoticesOrdered : Obligations.StepKeepsNoticesOrdered := by
  refine ⟨fun s t ht => ?_, fun l n => ⟨fun hoff => ?_, fun hon => ?_⟩, fun s => ?_, fun kind => by cases kind <;> rfl⟩
  · exact kept_by_step (P := State.NoticesOrdered) noticesOrdered_rule noticesOrdered_event (fun _ h => h)
      (fun _ h => h) ht
  · simp [NoticeList.receive, hoff]
  · rw [NoticeList.receive_subscribed hon]
    refine ⟨fun before m after hl hkind hindex hothers => NoticeList.offer_known hl ⟨hkind, hindex⟩ hothers,
      fun hnew hroom before after hl hbefore hafter => ?_, fun hnew hfull last hlast => ⟨fun hle => ?_, fun hlt => ?_⟩,
      NoticeList.offer_ne_nil l n⟩
    · rw [NoticeList.offer_unknown hnew, if_pos hroom, hl, insertNotice_split hbefore hafter]
    · rw [NoticeList.offer_unknown hnew, if_neg (Nat.not_lt.mpr hfull),
        if_neg (mt (displaces_iff hlast).mp (Nat.not_lt.mpr hle))]
    · intro before after hl hbefore hafter
      rw [NoticeList.offer_unknown hnew, if_neg (Nat.not_lt.mpr hfull), if_pos ((displaces_iff hlast).mpr hlt), hl,
        insertNotice_split hbefore hafter]
  · exact ⟨State.attention_iff (by decide), State.attention_iff (by decide), State.attention_iff (by decide), rfl⟩

end Sys2Proof.Machine
end

section
/-! SUPPORT. What the commands of one block do: VIEW and NOTICE, the hold-point slots, the table's removals, TARE, the
configuration's entry and settings, the lines, the key pair (R14 to R19, R48, R57, R67, R76, R97, R116, R138, R153, R160,
R168, R173, R178, R184, R185, R191, R192). -/

namespace Sys2Proof.Machine

/-! ## A command's answer -/

section Answer

variable {i : Instr} {p : Port} {code : Byte} {params : List Byte} {rule : State → Executed} {s : State}

/-- A command that reaches its rule is answered with what the rule gives. -/
theorem exec_answered (hreach : s.reaches i = true) (h : codeAndParams i = some (p, code, params))
    (hrule : ruleOf i = some rule) {t : State} {result : ResultCode} {data : List Byte}
    (heq : rule (s.taken i) = (t, ⟨result, data⟩)) : exec i s = .next (t.answered p code result data) := by
  rw [exec_of_reaches h hrule hreach, heq]

/-- A command whose rule refuses changes its reply slot alone. -/
theorem exec_refused (hreach : s.reaches i = true) (h : codeAndParams i = some (p, code, params))
    (hrule : ruleOf i = some rule) {result : ResultCode} (heq : rule (s.taken i) = refuse (s.taken i) result) :
    exec i s = .next ((s.taken i).refused p code result) :=
  exec_answered hreach h hrule heq

/-- A CONFIG-class command outside CONFIG is refused (R48). -/
theorem exec_refused_outside_config (hreach : s.reaches i = true) (h : codeAndParams i = some (p, code, params))
    (hrule : ruleOf i = some (inConfig rule)) (hstate : (s.taken i).run.state ≠ .config) :
    exec i s = .next ((s.taken i).refused p code .refusedState) :=
  exec_refused hreach h hrule (by simp [inConfig, hstate])

/-- A CONFIG-class command in CONFIG is answered with what its own rule gives. -/
theorem exec_answered_in_config (hreach : s.reaches i = true) (h : codeAndParams i = some (p, code, params))
    (hrule : ruleOf i = some (inConfig rule)) (hstate : (s.taken i).run.state = .config) {t : State}
    {result : ResultCode} {data : List Byte} (heq : rule (s.taken i) = (t, ⟨result, data⟩)) :
    exec i s = .next (t.answered p code result data) :=
  exec_answered hreach h hrule (by simp [inConfig, hstate, heq])

theorem exec_refused_in_config (hreach : s.reaches i = true) (h : codeAndParams i = some (p, code, params))
    (hrule : ruleOf i = some (inConfig rule)) (hstate : (s.taken i).run.state = .config) {result : ResultCode}
    (heq : rule (s.taken i) = refuse (s.taken i) result) :
    exec i s = .next ((s.taken i).refused p code result) :=
  exec_answered_in_config hreach h hrule hstate heq

end Answer

theorem clampNat_eq_max_min {lo hi : Nat} (h : lo ≤ hi) (x : Nat) : clampNat lo hi x = max lo (min hi x) := by
  unfold clampNat
  split_ifs <;> omega

theorem clampInt_eq_max_min {lo hi : Int} (h : lo ≤ hi) (x : Int) : clampInt lo hi x = max lo (min hi x) := by
  unfold clampInt
  split_ifs <;> omega

theorem RunState.refusesEdits_iff {r : RunState} (h : r ≠ .faulted) :
    r.refusesEdits = true ↔ r = .config ∨ r = .halted := by
  cases r <;> simp_all [RunState.refusesEdits]

/-! ## VIEW and NOTICE -/

theorem View.carriesIndex_iff {v : View} : v.carriesIndex = true ↔ v = .step ∨ v = .result := by
  cases v <;> simp [View.carriesIndex]

theorem View.carriesNumber_iff {v : View} : v.carriesNumber = true ↔ v = .step ∨ v = .result ∨ v = .log := by
  cases v <;> simp [View.carriesNumber]

/-- Settles O16: each rule spelled out for the sending port. -/
theorem viewAndNoticeCommandsActForTheSender : Obligations.ViewAndNoticeCommandsActForTheSender := by
  refine ⟨fun p view number s hreach => ⟨fun hnone => ?_, fun v hv => ?_⟩,
    fun p s hreach => ⟨fun hempty => ?_, fun head rest hl => ?_⟩, fun p marks s hreach => ?_⟩
  · exact exec_refused hreach rfl rfl (by simp [selectViewRule, hnone])
  · split
    next hindex =>
      refine exec_refused hreach rfl rfl ?_
      have hbad : v.carriesIndex = true ∧ Config.tableSize ≤ number.toNat := by
        rw [View.carriesIndex_iff]
        exact hindex
      simp [selectViewRule, hv, hbad]
    next hindex =>
      refine exec_answered hreach rfl rfl ?_
      have hgood : ¬ (v.carriesIndex = true ∧ Config.tableSize ≤ number.toNat) := by
        rw [View.carriesIndex_iff]
        exact hindex
      simp only [selectViewRule, hv, Bool.and_eq_true, decide_eq_true_eq, if_neg hgood, View.carriesNumber_iff]
  · exact exec_answered hreach rfl rfl (by simp [takeNoticeRule, hempty])
  · refine exec_answered hreach rfl rfl ?_
    have htake : ((s.taken (.takeNotice p)).notices.get p).afterTake =
        { (s.taken (.takeNotice p)).notices.get p with
          entries := rest
          lost := if rest = [] then false else ((s.taken (.takeNotice p)).notices.get p).lost } := by
      simp only [NoticeList.afterTake, hl, List.tail_cons]
      cases rest <;> simp
    simp only [takeNoticeRule, hl, htake]
  · exact exec_answered hreach rfl rfl rfl

/-! ## The hold-point slots -/

theorem slot_toNat_le_one {b : Byte} : ¬ 1 < b.toNat ↔ b = 0 ∨ b = 1 := by
  constructor
  · intro h
    rcases (show b.toNat = 0 ∨ b.toNat = 1 by omega) with h | h
    · exact .inl (BitVec.eq_of_toNat_eq h)
    · exact .inr (BitVec.eq_of_toNat_eq h)
  · rintro (rfl | rfl) <;> decide

theorem one_lt_toNat_iff {b : Byte} : 1 < b.toNat ↔ b ≠ 0 ∧ b ≠ 1 := by
  rw [← not_iff_not, slot_toNat_le_one]
  tauto

/-- Settles O25: the checks of R17 and R18 in their order, for either slot. -/
theorem holdPointCommandsSetTheSlots : Obligations.HoldPointCommandsSetTheSlots := by
  refine ⟨fun p slot index s hreach => ?_, fun p slot s hreach => ?_⟩
  · have hrefuses := RunState.refusesEdits_iff
      (State.not_faulted_of_reaches (p := p) rfl hreach (by decide) (by decide) (by decide))
    dsimp only
    rw [exec_of_reaches (i := .setHoldPoint p slot index) rfl rfl hreach]
    generalize s.taken (.setHoldPoint p slot index) = s1 at hrefuses ⊢
    simp only [setHoldPointRule, hrefuses, one_lt_toNat_iff]
    by_cases hstate : s1.run.state = .config ∨ s1.run.state = .halted
    · simp only [if_pos hstate]
      rfl
    by_cases hslot : slot ≠ 0 ∧ slot ≠ 1
    · simp only [if_neg hstate, if_pos hslot]
      rfl
    simp only [if_neg hstate, if_neg hslot]
    obtain rfl | rfl := slot_toNat_le_one.mp (mt one_lt_toNat_iff.mp hslot)
    · have hother : s1.program.holdSlot (1 - (0 : Byte).toNat) = s1.program.hold1 := rfl
      simp only [hother, if_true]
      split_ifs <;> rfl
    · have hother : s1.program.holdSlot (1 - (1 : Byte).toNat) = s1.program.hold0 := rfl
      have hone : ¬ (1 : Byte) = 0 := by decide
      simp only [hother, if_neg hone]
      split_ifs <;> rfl
  · have hrefuses := RunState.refusesEdits_iff
      (State.not_faulted_of_reaches (p := p) rfl hreach (by decide) (by decide) (by decide))
    dsimp only
    rw [exec_of_reaches (i := .clearHoldPoint p slot) rfl rfl hreach]
    generalize s.taken (.clearHoldPoint p slot) = s1 at hrefuses ⊢
    simp only [clearHoldPointRule, hrefuses, one_lt_toNat_iff]
    split_ifs with hstate hslot hzero
    · rfl
    · rfl
    · subst hzero
      rfl
    · obtain rfl | rfl := slot_toNat_le_one.mp (mt one_lt_toNat_iff.mp hslot)
      · exact absurd rfl hzero
      · rfl

/-! ## Removals from the table -/

section Removal

variable {p : Program} {d : Nat}

/-- The results after a removal, place by place (R14). -/
theorem Program.delete_results (hd : d < p.length) (hlength : p.length ≤ p.results.length) (k : Nat) :
    (p.delete d).results[k]? =
      if k + 1 < p.length then p.results[if k < d then k else k + 1]?
      else if k + 1 = p.length then some .cleared else p.results[k]? := by
  have htake : (p.results.take p.length).length = p.length := by simp [hlength]
  have herase : ((p.results.take p.length).eraseIdx d).length = p.length - 1 := by
    rw [List.length_eraseIdx_of_lt (by omega), htake]
  simp only [Program.delete, List.append_assoc]
  split_ifs with hbelow hk hlast
  · rw [List.getElem?_append_left (by omega), List.getElem?_eraseIdx, if_pos hk, List.getElem?_take_of_lt (by omega)]
  · rw [List.getElem?_append_left (by omega), List.getElem?_eraseIdx, if_neg hk, List.getElem?_take_of_lt hbelow]
  · rw [List.getElem?_append_right (by omega), herase, show k - (p.length - 1) = 0 by omega]
    rfl
  · rw [List.getElem?_append_right (by omega), herase, List.getElem?_append_right (by simp; omega), List.getElem?_drop,
      List.length_singleton]
    congr 1
    omega

theorem holdAfterDelete_eq (d : Nat) (h : Option Nat) :
    holdAfterDelete d h = h.bind fun i => if i = d then none else some (if d < i then i - 1 else i) := by
  cases h with
  | none => rfl
  | some i =>
    simp only [holdAfterDelete, Option.bind_some]
    split_ifs <;> rfl

end Removal

theorem RunState.whenEmptied_eq (r : RunState) :
    r.whenEmptied = if r = .ready ∨ r = .done then .idle else r := by
  cases r <;> rfl

/-- A change of the run state touches it and the run lamp alone (R195). -/
theorem State.setRunState_eq (s : State) (r : RunState) : s.setRunState r =
    { s with run := { s.run with state := r }, aux := { s.aux with
      lamp := (s.setRunState r).aux.lamp, lampDue := (s.setRunState r).aux.lampDue } } := by
  unfold State.setRunState
  cases r <;> dsimp only
  split_ifs <;> rfl

/-- The run lamp is 0 outside RUNNING and HELD (R195). -/
theorem State.setRunState_dark {s : State} {r : RunState} (h : r.inRun = false) : s.setRunState r =
    { s with run := { s.run with state := r }, aux := { s.aux with lamp := false } } := by
  cases r with
  | running => cases h
  | held => cases h
  | _ => rfl

/-- What DELETE STEP leaves once its checks have passed, but for the run lamp (R14). -/
theorem deleteStep_emptied (s : State) (program : Program) (cursor : Nat) :
    ∃ lamp lampDue,
      (if program.length = 0 then
        ({ s with program := program, run := { s.run with cursor := cursor } } : State).setRunState s.run.state.whenEmptied
      else { s with program := program, run := { s.run with cursor := cursor } }) =
      { s with
        program := program
        run := { s.run with
          cursor := cursor
          state := if program.length = 0 ∧ (s.run.state = .ready ∨ s.run.state = .done) then .idle else s.run.state }
        aux := { s.aux with lamp := lamp, lampDue := lampDue } } := by
  by_cases hempty : program.length = 0
  · simp only [hempty, true_and, RunState.whenEmptied_eq]
    exact ⟨_, _, State.setRunState_eq _ _⟩
  · simp only [hempty, false_and, if_false]
    exact ⟨_, _, rfl⟩

/-- Settles O24: a removal taken place by place, and the empty table. -/
theorem deleteAndClearShrinkTheTable : Obligations.DeleteAndClearShrinkTheTable := by
  refine ⟨fun p index s hreach => ?_, fun p s hreach => ?_⟩
  · have hrefuses := RunState.refusesEdits_iff
      (State.not_faulted_of_reaches (p := p) rfl hreach (by decide) (by decide) (by decide))
    dsimp only
    rw [exec_of_reaches (i := .deleteStep p index) rfl rfl hreach]
    generalize s.taken (.deleteStep p index) = s1 at hrefuses ⊢
    simp only [deleteStepRule, hrefuses, State.lockedIndex, Bool.and_eq_true, decide_eq_true_eq]
    by_cases hstate : s1.run.state = .config ∨ s1.run.state = .halted
    · simp only [if_pos hstate]
      rfl
    by_cases hlocked : s1.run.state.inRun = true ∧ index.toNat ≤ s1.run.cursor
    · simp only [if_neg hstate, if_pos hlocked]
      rfl
    by_cases hindex : s1.program.length ≤ index.toNat
    · simp only [if_neg hstate, if_neg hlocked, if_pos hindex]
      rfl
    simp only [if_neg hstate, if_neg hlocked, if_neg hindex]
    intro hlength hresults
    have hd : index.toNat < s1.program.length := Nat.lt_of_not_le hindex
    have hplaces := Program.delete_results hd (hlength.trans_eq hresults.symm)
    have hshort := Program.length_delete hd
    have hempty : (s1.program.length - 1 = 0) = (s1.program.length = 1) := by
      rw [eq_iff_iff]
      omega
    obtain ⟨lamp, lampDue, heq⟩ := deleteStep_emptied s1 (s1.program.delete index.toNat)
      (if s1.run.state.inRun then s1.run.cursor else min s1.run.cursor (s1.program.delete index.toNat).length)
    rw [heq, hshort]
    simp only [hempty]
    refine ⟨_, rfl, rfl, fun k hk => ?_, fun k hk hnext => ?_, ?_, fun k hk => ?_, holdAfterDelete_eq _ _,
      holdAfterDelete_eq _ _, rfl, rfl, rfl, rfl⟩
    · refine (hplaces k).trans ?_
      rw [if_pos hk, if_pos (by omega)]
    · exact (hplaces k).trans (by rw [if_pos hnext, if_neg (by omega)])
    · exact (hplaces _).trans (by rw [if_neg (by omega), if_pos (by omega)])
    · exact (hplaces k).trans (by rw [if_neg (by omega), if_neg (by omega)])
  · have hfaulted := State.not_faulted_of_reaches (p := p) rfl hreach (by decide) (by decide) (by decide)
    have hrefuses := RunState.refusesEdits_iff hfaulted
    dsimp only
    rw [exec_of_reaches (i := .clearProgram p) rfl rfl hreach]
    generalize s.taken (.clearProgram p) = s1 at hfaulted hrefuses ⊢
    refine ⟨fun hrefused => ?_, fun hrefused => ?_⟩
    · have hcondition : (s1.run.state.refusesEdits || s1.run.state.inRun) = true := by
        rw [Bool.or_eq_true, hrefuses]
        tauto
      simp only [clearProgramRule, if_pos hcondition]
      rfl
    · have hcondition : ¬ (s1.run.state.refusesEdits || s1.run.state.inRun) = true := by
        rw [Bool.or_eq_true, hrefuses]
        tauto
      simp only [clearProgramRule, if_neg hcondition]
      have hemptied : s1.run.state.whenEmptied = if s1.run.state = .manual then .manual else .idle := by
        cases hstate : s1.run.state <;> simp_all [RunState.whenEmptied, RunState.inRun]
      rw [State.setRunState_dark (by rw [hemptied]; split_ifs <;> decide), hemptied]
      exact ⟨_, rfl, rfl, rfl, rfl, rfl⟩

/-! ## Tare -/

/-- The tare is forced, noticed, and marked in the result of an ACTIVE step (R70). -/
theorem State.forceTare_eq (s : State) : s.forceTare = { s with
    weigh := { s.weigh with
      tare := forcedTare s.weigh.recent s.weigh.tare, tareTimer := none, nearArmed := true }
    notices := s.noticesAfter .tareForced s.runIndex (some (.mass (forcedTare s.weigh.recent s.weigh.tare)))
    program := if s.stepActive then s.program.editResult s.run.cursor fun r => { r with forcedTare := true }
      else s.program } := by
  by_cases hactive : s.stepActive = true
  · rw [if_pos hactive]
    exact if_pos hactive
  · rw [if_neg hactive]
    exact if_neg hactive

/-- Settles O26: the request, and the median in terms of sum and order. -/
theorem tareIsRequestedAndForced : Obligations.TareIsRequestedAndForced := by
  refine ⟨fun p s hreach => ?_, fun s moment hmoment => ?_⟩
  · have hfaulted := State.not_faulted_of_reaches (p := p) rfl hreach (by decide) (by decide) (by decide)
    dsimp only
    split
    next hconfig => exact exec_refused hreach rfl rfl (by simp [tareRule, hconfig])
    next hconfig =>
      split
      next hpending =>
        exact exec_answered hreach rfl rfl (by simp [tareRule, hconfig, hfaulted, Weigh.tarePending, hpending])
      next hpending =>
        have hnone : (s.taken (.tare p)).weigh.tareTimer = none := by simpa using hpending
        exact exec_answered hreach rfl rfl
          (by simp [tareRule, hconfig, hfaulted, Weigh.tarePending, State.requestTare, hnone])
  · have hexec : exec .tareForced s = .next (s.reach moment).forceTare := by
      simp only [exec, execTareForced, hmoment]
    rw [State.forceTare_eq] at hexec
    refine ⟨_, _, hexec, rfl, rfl, fun h => ?_, fun a b h => ?_, fun a h => ?_, fun a b c h => ?_, rfl, fun h => ?_,
      fun h => ?_, rfl⟩
    · simp [h, forcedTare]
    · simp [h, forcedTare]
    · simp [h, forcedTare]
    · have hmedian : forcedTare (s.reach moment).weigh.recent (s.reach moment).weigh.tare = median3 a b c := by
        simp [h, forcedTare]
      rw [hmedian]
      refine ⟨?_, ?_, ?_, ?_⟩
      · rcases median3_mem a b c with heq | heq | heq <;> simp [heq]
      all_goals unfold median3; omega
    · exact if_pos h
    · exact if_neg (by rw [show (s.reach moment).stepActive = s.stepActive from rfl, h]; exact Bool.false_ne_true)

/-! ## Settings -/

theorem okOr_eq (clamped : Bool) : okOr clamped = if clamped = false then .ok else .okClamped := by
  cases clamped <;> rfl

/-- A byte names a trigger policy up to 2. -/
theorem Trigger.ofCode_cases (b : Byte) : (2 < b.toNat ∧ Trigger.ofCode b = none) ∨
    ∃ t, Trigger.ofCode b = some t ∧ b.toNat ≤ 2 ∧ b.toNat = t.code := by
  unfold Trigger.ofCode
  split
  next h => exact .inr ⟨_, rfl, by omega, h⟩
  next h => exact .inr ⟨_, rfl, by omega, h⟩
  next h => exact .inr ⟨_, rfl, by omega, h⟩
  next h0 h1 h2 =>
    have h0 : b.toNat ≠ 0 := h0
    have h1 : b.toNat ≠ 1 := h1
    have h2 : b.toNat ≠ 2 := h2
    exact .inl ⟨by omega, rfl⟩

/-- Settles O33: each setting's rule with its clamps written as bounds. -/
theorem settingsAreStoredInConfig : Obligations.SettingsAreStoredInConfig := by
  refine ⟨fun p watts s hreach => ?_, fun p rh rating kmains s hreach => ?_, fun p zero gain tc tcal s hreach => ?_,
    fun p pairs policy still motion threshold s hreach => ?_, fun p interval s hreach => ?_⟩
  · dsimp only
    split
    next hconfig =>
      refine exec_answered_in_config hreach rfl rfl hconfig ?_
      simp only [setBudgetRule, clampNat_eq_max_min (show 600 ≤ 3600 by decide), okOr_eq, bne_eq_false_iff_eq]
    next hconfig => exact exec_refused_outside_config hreach rfl rfl hconfig
  · dsimp only
    split
    next hconfig =>
      refine exec_answered_in_config hreach rfl rfl hconfig ?_
      simp only [loadHeaterDataRule, clampNat_eq_max_min (show 2000 ≤ 6000 by decide),
        clampNat_eq_max_min (show 500 ≤ 2000 by decide), clampNat_eq_max_min (show 2000 ≤ 4000 by decide), okOr_eq,
        Bool.or_eq_false_iff, bne_eq_false_iff_eq, and_assoc]
    next hconfig => exact exec_refused_outside_config hreach rfl rfl hconfig
  · dsimp only
    split
    next hconfig =>
      refine exec_answered_in_config hreach rfl rfl hconfig ?_
      have hgain : clampNat 1 65535 gain.toNat = max 1 gain.toNat := by
        have := gain.isLt
        unfold clampNat
        split_ifs <;> omega
      simp only [loadScaleCalibrationRule, hgain, clampInt_eq_max_min (show (-8388607 : Int) ≤ 8388607 by decide),
        clampInt_eq_max_min (show (-1000 : Int) ≤ 1000 by decide), clampInt_eq_max_min (show (0 : Int) ≤ 600 by decide),
        okOr_eq, Bool.or_eq_false_iff, bne_eq_false_iff_eq, and_assoc]
      rfl
    next hconfig => exact exec_refused_outside_config hreach rfl rfl hconfig
  · dsimp only
    split
    next hconfig => exact exec_refused_outside_config hreach rfl rfl hconfig
    next hconfig =>
      have hconfig := not_not.mp hconfig
      split
      next hbad =>
        refine exec_refused_in_config hreach rfl rfl hconfig ?_
        rcases Trigger.ofCode_cases policy with ⟨-, hnone⟩ | ⟨trigger, hsome, hle, -⟩
        · simp only [setScalePolicyRule, hnone]
        · simp only [setScalePolicyRule, hsome]
          have hpairs : ¬ (pairs.toNat = 1 ∨ pairs.toNat = 2 ∨ pairs.toNat = 4 ∨ pairs.toNat = 8) := by
            rcases hbad with h | h <;> omega
          exact if_neg hpairs
      next hgood =>
        rcases Trigger.ofCode_cases policy with ⟨hhigh, -⟩ | ⟨trigger, hsome, -, hcode⟩
        · exact absurd (.inr hhigh) hgood
        refine ⟨trigger, hsome, exec_answered_in_config hreach rfl rfl hconfig ?_⟩
        have hpairs : pairs.toNat = 1 ∨ pairs.toNat = 2 ∨ pairs.toNat = 4 ∨ pairs.toNat = 8 := by omega
        simp only [setScalePolicyRule, hsome, if_pos hpairs, clampNat_eq_max_min (show 5 ≤ 500 by decide),
          clampNat_eq_max_min (show 10 ≤ 1000 by decide), clampNat_eq_max_min (show 20 ≤ 2000 by decide), okOr_eq,
          Bool.or_eq_false_iff, bne_eq_false_iff_eq, and_assoc, hcode]
        rfl
  · dsimp only
    split
    next hconfig => exact exec_refused_outside_config hreach rfl rfl hconfig
    next hconfig =>
      have hconfig := not_not.mp hconfig
      split
      next hn => exact exec_answered_in_config hreach rfl rfl hconfig (by simp only [setLineFilterRule, if_pos hn]; rfl)
      next hn => exact exec_refused_in_config hreach rfl rfl hconfig (by simp only [setLineFilterRule, if_neg hn])

/-! ## The thermistor table -/

theorem tableInOrder_iff_pairwise (table : List (Nat × Int)) :
    tableInOrder table = true ↔ table.Pairwise fun a b => a.1 < b.1 ∧ b.2 < a.2 :=
  ⟨pairwise_of_tableInOrder, fun h => (tableInOrder_iff_isChain table).mpr (List.Pairwise.isChain h)⟩

theorem clampPoint_eq (q : RawPoint) :
    clampPoint q = (min 4095 q.1.toNat, max (-500) (min 4000 q.2.toInt)) := by
  rw [clampPoint, clampNat_eq_max_min (show 0 ≤ 4095 by decide), clampInt_eq_max_min (show (-500 : Int) ≤ 4000 by decide),
    Nat.zero_max]

theorem any_pointClamped (points : List RawPoint) :
    points.any pointClamped = false ↔
      ∀ q ∈ points, (min 4095 q.1.toNat, max (-500) (min 4000 q.2.toInt)) = (q.1.toNat, q.2.toInt) := by
  simp only [List.any_eq_false, pointClamped, decide_eq_true_eq, not_not, clampPoint_eq]

theorem Byte.toNat_eq_zero {b : Byte} : b.toNat = 0 ↔ b = 0 :=
  ⟨fun h => BitVec.eq_of_toNat_eq h, fun h => h ▸ rfl⟩

theorem Byte.toNat_eq_one {b : Byte} : b.toNat = 1 ↔ b = 1 :=
  ⟨fun h => BitVec.eq_of_toNat_eq h, fun h => h ▸ rfl⟩

/-- Settles O34: FIRST stages, and SECOND loads what stands in order. -/
theorem thermistorTableLoadsInTwoFrames : Obligations.ThermistorTableLoadsInTwoFrames := by
  refine ⟨fun p half points s hreach => ?_, fun p half points s hreach => ?_⟩
  · have hlength : points.length = 9 := by
      obtain ⟨hwf, -⟩ := (State.reaches_iff (p := p) rfl).mp hreach
      simpa [Instr.wellFormed] using hwf
    dsimp only
    split
    next hconfig => exact exec_refused_outside_config hreach rfl rfl hconfig
    next hconfig =>
      have hconfig := not_not.mp hconfig
      split
      next hhalf =>
        refine exec_answered_in_config hreach rfl rfl hconfig ?_
        simp only [loadTableFirstRule, hhalf, hlength]
        rfl
      next hhalf =>
        refine exec_refused_in_config hreach rfl rfl hconfig ?_
        simp only [loadTableFirstRule, Byte.toNat_eq_zero, hhalf, false_and, if_false]
  · have hlength : points.length = 8 := by
      obtain ⟨hwf, -⟩ := (State.reaches_iff (p := p) rfl).mp hreach
      simpa [Instr.wellFormed] using hwf
    dsimp only
    split
    next hconfig => exact exec_refused_outside_config hreach rfl rfl hconfig
    next hconfig =>
      have hconfig := not_not.mp hconfig
      split
      next hbad =>
        refine exec_refused_in_config hreach rfl rfl hconfig ?_
        simp only [loadTableSecondRule, Byte.toNat_eq_one, hlength, and_true]
        split_ifs with hhalf
        · split
          next q first hstaging =>
            refine if_neg fun hq => ?_
            rcases hbad with h | h
            · exact h hhalf
            · exact h (by rw [hstaging, hq]; rfl)
          · rfl
        · rfl
      next hgood =>
        obtain ⟨hhalf, hport⟩ : half = 1 ∧ (s.taken (.loadThermistorTableSecond p half points)).bus.staging.map Prod.fst = some p := by
          simpa [not_or] using hgood
        intro first hfirst
        have hload : loadTableSecondRule p half points (s.taken (.loadThermistorTableSecond p half points)) =
            loadTable (first ++ points) ((s.taken (.loadThermistorTableSecond p half points)).setStaging none) := by
          simp only [loadTableSecondRule, hfirst, if_true]
          exact if_pos ⟨Byte.toNat_eq_one.mpr hhalf, hlength⟩
        have hclamp : (fun q : RawPoint => (min 4095 q.1.toNat, max (-500) (min 4000 q.2.toInt))) = clampPoint :=
          funext fun q => (clampPoint_eq q).symm
        simp only [hclamp]
        split
        next horder =>
          refine exec_answered_in_config hreach rfl rfl hconfig (hload.trans ?_)
          simp only [loadTable, if_pos ((tableInOrder_iff_pairwise _).mpr horder), okOr_eq, any_pointClamped,
            ← clampPoint_eq]
          rfl
        next horder =>
          refine exec_answered_in_config hreach rfl rfl hconfig (hload.trans ?_)
          simp only [loadTable, if_neg (mt (tableInOrder_iff_pairwise _).mp horder)]
          rfl

/-! ## The port settings -/

theorem portOfCode_eq_none {b : Byte} : portOfCode b = none ↔ 3 < b.toNat := by
  unfold portOfCode
  split
  next h => simp [h]
  next h => simp [h]
  next h => simp [h]
  next h => simp [h]
  next h0 h1 h2 h3 =>
    have h0 : b.toNat ≠ 0 := h0
    have h1 : b.toNat ≠ 1 := h1
    have h2 : b.toNat ≠ 2 := h2
    have h3 : b.toNat ≠ 3 := h3
    simp only [true_iff]
    omega

theorem acceptanceInRange_iff {filter enable code mask : Byte} : acceptanceInRange filter enable code mask = true ↔
    ¬ (1 < filter.toNat ∨ 1 < enable.toNat ∨ 15 < code.toNat ∨ 15 < mask.toNat) := by
  simp only [acceptanceInRange, Bool.and_eq_true, decide_eq_true_eq]
  omega

theorem low_nibble (b : Byte) : b.extractLsb' 0 4 = BitVec.ofNat 4 b.toNat := by
  apply BitVec.eq_of_toNat_eq
  simp

/-- Settles O35: the checks of R184 and R178 in their order. -/
theorem portSettingsKeepAWayOutOfConfig : Obligations.PortSettingsKeepAWayOutOfConfig := by
  refine ⟨fun p port filter enable code mask s hreach => ?_, fun p choice s hreach => ?_⟩
  · dsimp only
    split
    next hconfig => exact exec_refused_outside_config hreach rfl rfl hconfig
    next hconfig =>
      have hconfig := not_not.mp hconfig
      split
      next hbad =>
        refine exec_refused_in_config hreach rfl rfl hconfig ?_
        unfold setAcceptanceRule
        split
        · rfl
        next q hq =>
          have hport : ¬ 3 < port.toNat := by simp [← portOfCode_eq_none, hq]
          have hrange : ¬ acceptanceInRange filter enable code mask = true := by
            rw [acceptanceInRange_iff]
            tauto
          exact if_neg hrange
      next hgood =>
        intro q hq
        have hrange : acceptanceInRange filter enable code mask = true := by
          rw [acceptanceInRange_iff]
          tauto
        have hfilter : filter = 0 ∨ filter = 1 := slot_toNat_le_one.mp (by tauto)
        rw [exec_of_reaches (i := .setAcceptance p port filter enable code mask) rfl rfl hreach]
        generalize s.taken (.setAcceptance p port filter enable code mask) = s1 at hconfig ⊢
        have hrule : inConfig (setAcceptanceRule p port filter enable code mask) s1 =
            let new : Filter := ⟨decide (enable = 1), BitVec.ofNat 4 code.toNat, BitVec.ofNat 4 mask.toNat⟩
            let old := s1.bus.filters.get q
            let pair : FilterPair := if filter = 0 then ⟨new, old.b⟩ else ⟨old.a, new⟩
            if q = p ∧ pair.a.passes 10 = false ∧ pair.b.passes 10 = false then refuse s1 .badValue
            else ({ s1 with bus := { s1.bus with filters := s1.bus.filters.set q pair } },
              ⟨.ok, filterBytes pair.a ++ filterBytes pair.b⟩) := by
          simp only [inConfig, if_pos hconfig, setAcceptanceRule, hq, if_pos hrange, low_nibble, Byte.toNat_eq_one,
            FilterPair.put, Byte.toNat_eq_zero, FilterPair.passes, configClass, Bool.not_eq_true, Bool.or_eq_false_iff]
          rfl
        rw [hrule]
        dsimp only
        split_ifs <;> rfl
  · dsimp only
    split
    next hconfig => exact exec_refused_outside_config hreach rfl rfl hconfig
    next hconfig =>
      have hconfig := not_not.mp hconfig
      rw [exec_of_reaches (i := .setService p choice) rfl rfl hreach]
      generalize s.taken (.setService p choice) = s1 at hconfig ⊢
      simp only [inConfig, if_pos hconfig, setServiceRule, one_lt_toNat_iff, Byte.toNat_eq_zero, Byte.toNat_eq_one,
        Bus.otherAcceptsConfig, configClass, Bool.or_eq_true, or_assoc]
      by_cases hchoice : choice ≠ 0 ∧ choice ≠ 1
      · simp only [if_pos hchoice, if_pos (Or.inl hchoice)]
        rfl
      · simp only [if_neg hchoice, or_iff_right hchoice]
        obtain rfl | rfl := slot_toNat_le_one.mp (mt one_lt_toNat_iff.mp hchoice)
        · split_ifs <;> rfl
        · split_ifs <;> rfl

/-! ## The lines -/

theorem LineFunction.ofCode_eq_none {b : Byte} (h : 7 < b.toNat) : LineFunction.ofCode b = none := by
  unfold LineFunction.ofCode
  split
  case h_9 => rfl
  all_goals omega

theorem modify_eq_set {α : Type} {l : List α} {i : Nat} {x : α} (h : l[i]? = some x) (f : α → α) :
    l.modify i f = l.set i (f x) := by
  refine List.ext_getElem? fun j => ?_
  rw [List.getElem?_modify, List.getElem?_set]
  obtain ⟨hlt, rfl⟩ := List.getElem?_eq_some_iff.mp h
  split_ifs with hij
  · subst hij
    simp [hlt]
  · simp

section Line

variable {a : Aux} {i : Nat} {l : AuxLine}

theorem Aux.setFunction_sensePin (hl : a.lines[i]? = some l) (pin : Bool) (f : LineFunction) :
    (a.sensePin i pin).setFunction i f = { a with lines := a.lines.set i { l with function := f, pin := pin } } := by
  have hlt := (List.getElem?_eq_some_iff.mp hl).1
  have hsensed : (a.sensePin i pin).lines = a.lines.set i { l with pin := pin } := modify_eq_set hl _
  have hline : (a.sensePin i pin).lines[i]? = some { l with pin := pin } := by simp [hsensed, hlt]
  unfold Aux.setFunction
  rw [modify_eq_set hline, hsensed, List.set_set]
  rfl

theorem Aux.setLatch_sensePin (hl : a.lines[i]? = some l) (pin level : Bool) :
    (a.sensePin i pin).setLatch i level = { a with lines := a.lines.set i { l with latch := level, pin := pin } } := by
  have hlt := (List.getElem?_eq_some_iff.mp hl).1
  have hsensed : (a.sensePin i pin).lines = a.lines.set i { l with pin := pin } := modify_eq_set hl _
  have hline : (a.sensePin i pin).lines[i]? = some { l with pin := pin } := by simp [hsensed, hlt]
  unfold Aux.setLatch
  rw [modify_eq_set hline, hsensed, List.set_set]
  rfl

/-- The reply shows the line as it stands after the command (R191, R192). -/
theorem State.lineReply_set {s : State} (hl : s.aux.lines[i]? = some l) (new : AuxLine) :
    State.lineReply { s with aux := { s.aux with lines := s.aux.lines.set i new } } i =
      u8 i ++ u8 new.function.code ++ flag new.latch ++ flag (s.readBack new) := by
  have hlt := (List.getElem?_eq_some_iff.mp hl).1
  have hline : (s.aux.lines.set i new)[i]? = some new := by simp [hlt]
  simp only [State.lineReply, hline]
  rfl

end Line

/-- Settles O36: the line is written in place and read back. -/
theorem lineCommandsSetFunctionAndLatch : Obligations.LineCommandsSetFunctionAndLatch := by
  refine ⟨fun p line function pin s hreach => ?_, fun p line level pin s hreach => ?_⟩
  · dsimp only
    split
    next hconfig => exact exec_refused_outside_config hreach rfl rfl hconfig
    next hconfig =>
      have hconfig := not_not.mp hconfig
      split
      next hbad =>
        refine exec_refused_in_config hreach rfl rfl hconfig ?_
        simp only [setLineFunctionRule, LineFunction.ofCode_eq_none hbad]
      next hgood =>
        intro f hf
        rw [Option.mem_def] at hf
        rw [exec_of_reaches (i := .setLineFunction p line function pin) rfl rfl hreach]
        generalize s.taken (.setLineFunction p line function pin) = s1 at hconfig ⊢
        have helsewhere : s1.aux.trigElsewhere line.toNat = true ↔
            ∃ j : Fin 8, j.val ≠ line.toNat ∧ s1.aux.functionOf j = some .scaleTrigIn := by
          rw [← Bool.not_eq_false, Aux.trigElsewhere_eq_false]
          push Not
          exact ⟨fun ⟨j, hlt, hne, hj⟩ => ⟨⟨j, hlt⟩, hne, hj⟩, fun ⟨j, hne, hj⟩ => ⟨j, j.isLt, hne, hj⟩⟩
        simp only [inConfig, if_pos hconfig, setLineFunctionRule, hf, helsewhere]
        by_cases hallowed : f ∈ allowedFunctions line.toNat
        · simp only [hallowed, not_true, if_false]
          split_ifs
          · rfl
          · intro l hl
            rw [Option.mem_def] at hl
            rw [Aux.setFunction_sensePin hl, State.lineReply_set hl]
        · simp only [hallowed, not_false_eq_true, if_true]
          rfl
  · dsimp only
    rw [exec_of_reaches (i := .setLineLevel p line level pin) rfl rfl hreach]
    generalize s.taken (.setLineLevel p line level pin) = s1
    simp only [setLineLevelRule]
    split_ifs with hbad
    · rfl
    · intro l hl
      rw [Option.mem_def] at hl
      rw [Aux.setLatch_sensePin hl, State.lineReply_set hl]
      obtain rfl | rfl := slot_toNat_le_one.mp (fun h => hbad (.inr h)) <;> rfl

/-! ## The key pair -/

/-- Settles O40: either key, with the flag cleared after KEY B. -/
theorem keyPairRefreshesTheLease : Obligations.KeyPairRefreshesTheLease := by
  refine ⟨fun p s hreach => exec_answered hreach rfl rfl rfl, fun p s hreach => ?_⟩
  dsimp only
  rw [exec_of_reaches (i := .leaseKeyB p) rfl rfl hreach]
  generalize s.taken (.leaseKeyB p) = s1
  simp only [clearsKey, leaseKeyBRule, State.leaseLive, decide_eq_true_eq]
  by_cases hflag : s1.safety.keySequence = false
  · simp only [hflag, if_true, Bool.false_eq_true, if_false]
    rfl
  · rw [Bool.not_eq_false] at hflag
    by_cases hlive : s1.safety.lease = .live
    · simp only [hflag, hlive, if_true, ne_eq, not_true, if_false, Bool.true_eq_false]
      simp [State.loadLease, leaseTime, Config.ms, hlive, LeaseState.code]
    · simp only [hflag, hlive, if_true, ne_eq, not_false_eq_true, if_false, Bool.true_eq_false]
      rfl

end Sys2Proof.Machine
end

section
/-! SUPPORT. The power-on state, the phases of a write, and what a read captures (R20, R50, R177 to R187, section
12.4). -/

namespace Sys2Proof.Machine

/-! ## Power-on -/

/-- Settles O2: each promise is about the fixed values of the four power-on states. -/
theorem powerOnMeetsEveryPromise : Obligations.PowerOnMeetsEveryPromise := by
  refine ⟨fun addrsel stopN => ?_, rfl⟩
  have hprogram : (State.powerOn addrsel stopN).RunSound := by cases addrsel <;> cases stopN <;> decide
  have hblade : (State.powerOn addrsel stopN).BladeGuarded := by cases addrsel <;> cases stopN <;> decide
  have hfollow : (State.powerOn addrsel stopN).OutputsFollow := by cases addrsel <;> cases stopN <;> decide
  have hsafety : (State.powerOn addrsel stopN).SafetySound := by cases addrsel <;> cases stopN <;> decide
  have hgrant : (State.powerOn addrsel stopN).thermal.grant = 0 := rfl
  have hgate : (State.powerOn addrsel stopN).thermal.gate = false := rfl
  have hlevel : (State.powerOn addrsel stopN).blade.commanded = 0 := rfl
  exact ⟨Program.reset_sound, hprogram, by simp [State.HeaterGuarded, hgrant, hgate],
    by simp [State.GrantBounded, hgrant], by simp [State.MotorGuarded, hlevel], hblade, hfollow, hsafety,
    show Weigh.reset.Sound by decide, show IngredientLog.cleared.Balanced by decide,
    show IngredientLog.cleared.Numbered by decide, State.noticesOrdered_congr (s := State.reset) rfl (by decide),
    ⟨by simp [State.powerOn, Bus.reset], by simp [State.powerOn, Bus.reset], by simp [State.powerOn, Bus.reset]⟩,
    show Aux.reset.Sound by decide⟩

/-- Settles O37: the power-on state, block by block. -/
theorem powerOnResetStartsThePart : Obligations.PowerOnResetStartsThePart :=
  fun _ _ _ => ⟨_, rfl, rfl, rfl, rfl, rfl, rfl, rfl, rfl, rfl, rfl, rfl, rfl, rfl, rfl, rfl, rfl⟩

/-! ## Addresses -/

theorem Bus.addressOf_injective (b : Bus) {p q : Port} (h : b.addressOf p = b.addressOf q) : p = q := by
  simp only [Bus.addressOf, Nat.add_left_cancel_iff] at h
  revert h
  cases p <;> cases q <;> decide

/-- A port answers at its own address while that is enabled (R177). -/
theorem Bus.portAt_eq_some {b : Bus} {p : Port} {a : Nat} :
    b.portAt a = some p ↔ b.enabled p = true ∧ b.addressOf p = a := by
  constructor
  · intro h
    simpa using List.find?_some h
  · rintro ⟨henabled, rfl⟩
    have hfound : (b.portAt (b.addressOf p)).isSome = true := by
      rw [Bus.portAt, List.find?_isSome]
      exact ⟨p, by cases p <;> simp, by simp [henabled]⟩
    obtain ⟨q, hq⟩ := Option.isSome_iff_exists.mp hfound
    have hpredicate := List.find?_some hq
    have hsame : b.addressOf q = b.addressOf p := by
      simp only [Bool.and_eq_true, decide_eq_true_eq] at hpredicate
      exact hpredicate.2
    rw [hq, b.addressOf_injective hsame]

theorem Bus.portAt_eq_none {b : Bus} {a : Nat} (h : ∀ p : Port, b.enabled p = true → b.addressOf p ≠ a) :
    b.portAt a = none := by
  rw [Option.eq_none_iff_forall_ne_some]
  intro p hp
  obtain ⟨henabled, haddress⟩ := Bus.portAt_eq_some.mp hp
  exact h p henabled haddress

/-! ## Writes -/

/-- The first 40 bytes are acknowledged, and none after them (R180). -/
theorem dataAnswersOf_eq (bytes : List Byte) : dataAnswersOf bytes =
    List.replicate (min 40 bytes.length) true ++ List.replicate (bytes.length - 40) false := by
  refine List.ext_getElem (by simp [dataAnswersOf]; omega) fun k hk _ => ?_
  simp only [dataAnswersOf, List.length_map, List.length_range] at hk
  by_cases hstored : k < 40
  · rw [List.getElem_append_left (by simp; omega)]
    simp [dataAnswersOf, Config.frameBytes, hstored]
  · rw [List.getElem_append_right (by simp; omega)]
    simp [dataAnswersOf, Config.frameBytes, hstored]

/-- A frame that joins the queue is counted, and its port's slot is PENDING (R181). -/
theorem Bus.slotState_of_joined {b : Bus} {f : Frame} {rest : List Frame} (h : b.queue = rest ++ [f]) :
    b.queuedCount f.port = (rest.countP fun g => decide (g.port = f.port)) + 1 ∧ b.slotState f.port = 1 := by
  have hcount : b.queuedCount f.port = (rest.countP fun g => decide (g.port = f.port)) + 1 := by
    simp [Bus.queuedCount, h]
  exact ⟨hcount, by simp [Bus.slotState, hcount]⟩

/-- Settles O45: the address phase by the port found, and the write's end by its bytes. -/
theorem writesJoinTheQueue : Obligations.WritesJoinTheQueue := by
  refine ⟨fun dt address s => ⟨fun hwriting => ?_, fun hfree => ⟨fun p henabled haddress => ?_, fun hnone => ?_⟩⟩,
    fun dt bytes s => ⟨fun hfree => ?_, fun p hwriting => ⟨fun hempty => ?_, fun hbytes => ?_⟩⟩⟩
  · obtain ⟨q, hq⟩ := Option.isSome_iff_exists.mp hwriting
    have hafter : (s.after dt).bus.writing = some q := hq
    simp only [exec, execWriteAddressPhase, hafter]
    rfl
  · have hafter : (s.after dt).bus.writing = none := hfree
    have hport : (s.after dt).bus.portAt address.toNat = some p := Bus.portAt_eq_some.mpr ⟨henabled, haddress⟩
    simp only [exec, execWriteAddressPhase, hafter, hport, hfree]
    rfl
  · have hafter : (s.after dt).bus.writing = none := hfree
    have hport : (s.after dt).bus.portAt address.toNat = none := Bus.portAt_eq_none hnone
    simp only [exec, execWriteAddressPhase, hafter, hport, hfree]
    rfl
  · have hafter : (s.after dt).bus.writing = none := hfree
    simp only [exec, execWriteEnd, hafter]
    rfl
  · have hafter : (s.after dt).bus.writing = some p := hwriting
    simp only [exec, execWriteEnd, hafter, hempty, if_true]
    rfl
  · have hafter : (s.after dt).bus.writing = some p := hwriting
    simp only [exec, execWriteEnd, hafter, if_neg hbytes, dataAnswersOf_eq]
    exact ⟨_, rfl, rfl, Bus.slotState_of_joined (f := frameOfWrite p bytes) rfl⟩

/-! ## Reads -/

@[simp] theorem u8_length (n : Nat) : (u8 n).length = 1 := rfl

@[simp] theorem u16_length (n : Nat) : (u16 n).length = 2 := rfl

@[simp] theorem u24_length (n : Nat) : (u24 n).length = 3 := rfl

@[simp] theorem u32_length (n : Nat) : (u32 n).length = 4 := rfl

@[simp] theorem i16_length (z : Int) : (i16 z).length = 2 := rfl

@[simp] theorem i24_length (z : Int) : (i24 z).length = 3 := rfl

@[simp] theorem flag_length (b : Bool) : (flag b).length = 1 := rfl

@[simp] theorem optIndex_length (o : Option Nat) : (optIndex o).length = 1 := rfl

@[simp] theorem optTemp_length (o : Option Int) : (optTemp o).length = 2 := rfl

@[simp] theorem padTo_length (n : Nat) (l : List Byte) : (padTo n l).length = n := by simp [padTo]

@[simp] theorem entryBytes_length (e : Option Entry) : (entryBytes e).length = 16 := by
  cases e <;> simp [entryBytes]

@[simp] theorem tableBytes_length (table : List (Nat × Int)) : (tableBytes table).length = 4 * table.length := by
  induction table with
  | nil => rfl
  | cons q rest ih =>
    simp only [tableBytes, List.length_append, u16_length, i16_length, ih, List.length_cons]
    omega

theorem tableBytes_eq (table : List (Nat × Int)) :
    tableBytes table = (table.map fun q => u16 q.1 ++ i16 q.2).flatten := by
  induction table with
  | nil => rfl
  | cons q rest ih => simp [tableBytes, ih]

/-- The numbers of a stored record, as its bytes show them (12.3). -/
def StepRecord.written (r : StepRecord) : WrittenRecord :=
  { label := r.label
    flags := BitVec.ofNat 8 ((match r.endMode with | .any => 0 | .all => 1) + 4 * r.limit.isSome.toNat +
      8 * r.autoTare.toNat + 16 * r.clamped.toNat)
    limit := BitVec.ofNat 16 (r.limit.getD 0)
    heat := r.heat.map fun h => (BitVec.ofNat 16 h.target, BitVec.ofNat 16 h.cap, BitVec.ofNat 8 h.band)
    stir := r.stir.map fun t =>
      let d := match t.direction with
        | .forward => 0
        | .reverse => 1
      (BitVec.ofNat 8 t.level, match t.pattern with
        | .continuous => (BitVec.ofNat 8 d, BitVec.ofNat 8 0, BitVec.ofNat 8 0)
        | .interval on off => (BitVec.ofNat 8 (d + 4), BitVec.ofNat 8 on, BitVec.ofNat 8 off)
        | .knead => (BitVec.ofNat 8 (d + 8), BitVec.ofNat 8 0, BitVec.ofNat 8 0))
    weigh := r.weigh.map fun w => (BitVec.ofNat 24 w.target, BitVec.ofNat 16 w.tolerance)
    time := r.time.map fun t => (BitVec.ofNat 16 t.duration, match t.start with
      | .fromEntry => BitVec.ofNat 8 0
      | .fromReached => BitVec.ofNat 8 1)
    prompt := r.prompt }

/-- The bytes of a written Heat part (12.3). -/
def heatPartBytes (h : Half × Half × Byte) : List Byte := halfBytes h.1 ++ halfBytes h.2.1 ++ [h.2.2]

/-- The bytes of a written Stir part (12.3). -/
def stirPartBytes (t : Byte × Byte × Byte × Byte) : List Byte := [t.1, t.2.1, t.2.2.1, t.2.2.2]

/-- The bytes of a written Weigh part (12.3). -/
def weighPartBytes (x : Tri × Half) : List Byte := triBytes x.1 ++ halfBytes x.2

/-- The bytes of a written Time part (12.3). -/
def timePartBytes (t : Half × Byte) : List Byte := halfBytes t.1 ++ [t.2]

/-- The presence byte of a written record (12.3). -/
def WrittenRecord.presence (w : WrittenRecord) : Byte :=
  BitVec.ofNat 8 (w.heat.isSome.toNat + 2 * w.stir.isSome.toNat + 4 * w.weigh.isSome.toNat + 8 * w.time.isSome.toNat
    + 16 * w.prompt.isSome.toNat)

/-- The parts of a written record, behind its header of five bytes. -/
def WrittenRecord.parts (w : WrittenRecord) : List Byte :=
  (w.heat.map heatPartBytes).getD [] ++ ((w.stir.map stirPartBytes).getD [] ++ ((w.weigh.map weighPartBytes).getD [] ++
    ((w.time.map timePartBytes).getD [] ++ w.prompt.toList)))

theorem WrittenRecord.bytes_eq (w : WrittenRecord) : w.bytes =
    w.label :: w.flags :: w.limit.extractLsb' 8 8 :: w.limit.extractLsb' 0 8 :: w.presence :: w.parts := by
  simp only [WrittenRecord.bytes, WrittenRecord.parts, List.append_assoc]
  rfl

theorem recordBytes_eq_written (r : StepRecord) : recordBytes r = r.written.bytes := by
  obtain ⟨label, mode, limit, tare, clamped, heat, stir, weigh, time, prompt⟩ := r
  rw [WrittenRecord.bytes_eq]
  simp only [recordBytes, List.append_assoc, WrittenRecord.parts, StepRecord.written, WrittenRecord.presence,
    Option.isSome_map, Option.map_map]
  refine congrArg (fun parts : List Byte => label :: _ :: _ :: _ :: _ :: parts)
    (congrArg₂ (· ++ ·) ?heat (congrArg₂ (· ++ ·) ?stir (congrArg₂ (· ++ ·) ?weigh (congrArg₂ (· ++ ·) ?time ?prompt))))
  case heat => cases heat <;> rfl
  case stir =>
    cases stir with
    | none => rfl
    | some t =>
      obtain ⟨level, direction, pattern⟩ := t
      cases pattern <;> rfl
  case weigh => cases weigh <;> rfl
  case time =>
    cases time with
    | none => rfl
    | some t =>
      obtain ⟨duration, start⟩ := t
      cases start <;> rfl
  case prompt => cases prompt <;> rfl

/-- The bytes of a part that is present or not. -/
theorem length_getD_map {α : Type} (o : Option α) (f : α → List Byte) {n : Nat} (h : ∀ x, (f x).length = n) :
    ((o.map f).getD []).length = n * o.isSome.toNat := by
  cases o <;> simp [h]

theorem WrittenRecord.bytes_length (w : WrittenRecord) : w.bytes.length = 5 + 5 * w.heat.isSome.toNat +
    4 * w.stir.isSome.toNat + 5 * w.weigh.isSome.toNat + 3 * w.time.isSome.toNat + w.prompt.isSome.toNat := by
  have hprompt : w.prompt.toList.length = w.prompt.isSome.toNat := by cases w.prompt <;> rfl
  rw [WrittenRecord.bytes_eq]
  simp only [WrittenRecord.parts, List.length_cons, List.length_append, hprompt,
    length_getD_map w.heat heatPartBytes (n := 5) fun _ => rfl,
    length_getD_map w.stir stirPartBytes (n := 4) fun _ => rfl,
    length_getD_map w.weigh weighPartBytes (n := 5) fun _ => rfl,
    length_getD_map w.time timePartBytes (n := 3) fun _ => rfl]
  omega

theorem recordBytes_length (r : StepRecord) : (recordBytes r).length = 5 + 5 * r.heat.isSome.toNat +
    4 * r.stir.isSome.toNat + 5 * r.weigh.isSome.toNat + 3 * r.time.isSome.toNat + r.prompt.isSome.toNat := by
  rw [recordBytes_eq_written, WrittenRecord.bytes_length]
  simp [StepRecord.written]

/-- The bytes come round again after the last (R186). -/
theorem readByte_round {bytes : List Byte} {k : Nat} (h : k < bytes.length) :
    bytes[k]? = some (readByte bytes k) ∧ readByte bytes (bytes.length + k) = readByte bytes k := by
  simp [readByte, Nat.mod_eq_of_lt h, h]

theorem State.viewBytes_take (s : State) (p : Port) : (s.viewBytes p).take 4 = s.viewHeader p :=
  List.take_left' (by simp [State.viewHeader])

theorem State.viewBytes_drop (s : State) (p : Port) : (s.viewBytes p).drop 4 = s.viewBody p :=
  List.drop_left' (by simp [State.viewHeader])

theorem State.viewBytes_length (s : State) (p : Port) : (s.viewBytes p).length = 4 + (s.viewBody p).length := by
  simp only [State.viewBytes, State.viewHeader, List.length_append, u8_length, u16_length]

/-- The part after an answered read: the pins as shown, and the snapshot of the selected view (R186). -/
def State.readAt (s : State) (dt : Nat) (pins : Byte) (p : Port) : State :=
  { s with
    now := s.now + Config.us dt, aux := s.aux.setPins pins
    bus := { s.bus with
      acknowledged := true
      snapshot := some (p, State.viewBytes { s with now := s.now + Config.us dt, aux := s.aux.setPins pins } p) } }

theorem exec_readAddressPhase_of_port {s : State} {p : Port} {dt : Nat} {address : BitVec 7} {pins : Byte}
    (henabled : s.bus.enabled p = true) (haddress : s.bus.addressOf p = address.toNat) :
    exec (.readAddressPhase dt address pins) s = .next (s.readAt dt pins p) := by
  have hport : (s.after dt).bus.portAt address.toNat = some p := Bus.portAt_eq_some.mpr ⟨henabled, haddress⟩
  simp only [exec, execReadAddressPhase, hport]
  rfl

theorem noticeBytes_eq (n : Notice) : noticeBytes n =
    u8 n.kind.code ++ u8 n.kind.priority ++ u8 (n.index.getD 0xFF) ++ u8 n.count ++ u32 n.time ++
      u8 n.value.isSome.toNat ++ noticeValueBytes n.value := rfl

section Body

variable {s : State} {p : Port} {dt : Nat} {pins : Byte}

theorem State.readAt_viewBytes : (s.readAt dt pins p).viewBytes p =
    State.viewBytes { s with now := s.now + Config.us dt, aux := s.aux.setPins pins } p := rfl

theorem State.readBack_eq (s : State) (l : AuxLine) : s.readBack l =
    match l.function with
    | .gpIn | .scaleTrigIn => l.pin
    | .gpOut => l.latch
    | .lidLock => s.aux.lockEngaged
    | .ventFan => decide (s.thermal.vent ≠ .off)
    | .buzzer => s.aux.buzzer.any fun b => decide (b.phase % 2 = 0)
    | .stepMark => s.aux.stepMark
    | .runLamp => s.aux.lamp := by
  unfold State.readBack State.drivenLevel
  cases l.function with
  | ventFan => cases s.thermal.vent <;> rfl
  | _ => rfl

theorem State.statusBody_length (s : State) (p : Port) : (s.statusBody p).length = 22 := by
  simp only [State.statusBody, holdBytes, List.length_append, u8_length, u16_length, i24_length, optIndex_length,
    optTemp_length]

theorem State.statusBody_eq (s : State) (p : Port) : s.statusBody p =
    u8 s.run.state.code ++ u8 s.run.cursor ++ u8 s.run.phase.code ++ u8 s.program.length
      ++ u8 (s.program.hold0.getD 0xFF) ++ u8 (s.program.hold1.getD 0xFF) ++ u16 s.run.causes.code
      ++ i24 (min 200000 (s.weigh.reported - s.weigh.tare))
      ++ u8 (s.weigh.settled.isSome.toNat + 2 * s.weigh.tareTimer.isSome.toNat
        + 4 * (if 200000 < s.weigh.reported - s.weigh.tare then RangeFlag.overrange else s.weigh.range).code)
      ++ u8 (s.weigh.lastKind.getD s.weigh.kind).code ++ i16 (s.thermal.tb.getD (-32768))
      ++ u16 s.thermal.grant ++ u8 s.blade.commanded ++ u8 (actualLevel s.blade.actual)
      ++ u8 s.safety.lease.code
      ++ u8 (s.safety.stopLatch.toNat + 2 * s.safety.heatPermit.active.toNat
        + 4 * s.safety.motionPermit.active.toNat + 8 * s.safety.lidClosed.active.toNat)
      ++ u8 (s.notices.get p).entries.length := by
  have hnet : s.weigh.net = min 200000 (s.weigh.reported - s.weigh.tare) := min_comm _ _
  simp only [State.statusBody, holdBytes, hnet, ← List.append_assoc]
  rfl

theorem ReplySlot.body_length (r : ReplySlot) : r.body.length = 28 := by
  simp only [ReplySlot.body, List.length_append, u8_length, padTo_length, List.length_singleton]

theorem Program.stepBody_of_none {p : Program} {n : Nat} (h : p.steps[n]? = none) : p.stepBody n = [0] := by
  simp only [Program.stepBody, h]
  rfl

theorem Program.stepBody_of_some {p : Program} {n : Nat} {r : StepRecord} (h : r ∈ p.steps[n]?) :
    p.stepBody n = [1] ++ recordBytes r ∧ (p.stepBody n).length = 6 + 5 * r.heat.isSome.toNat
      + 4 * r.stir.isSome.toNat + 5 * r.weigh.isSome.toNat + 3 * r.time.isSome.toNat + r.prompt.isSome.toNat := by
  rw [Option.mem_def] at h
  have heq : p.stepBody n = [1] ++ recordBytes r := by
    simp only [Program.stepBody, h]
    rfl
  refine ⟨heq, ?_⟩
  rw [heq, List.length_append, recordBytes_length, List.length_singleton]
  omega

theorem resultBytes_length (r : StepResult) : (resultBytes r).length = 11 := by
  simp only [resultBytes, List.length_append, u8_length, u24_length, optTemp_length, i24_length]

theorem IngredientLog.body_length (log : IngredientLog) (n : Nat) : (log.body n).length = 82 := by
  simp only [IngredientLog.body, List.length_append, u8_length, u16_length, i24_length, entryBytes_length]

/-- An entry slot of the LOG view (R92). -/
theorem IngredientLog.entryBytes_held (log : IngredientLog) (n : Nat) : entryBytes (log.held n) =
    match log.entries.find? fun e => decide (e.number = n) with
    | none => List.replicate 16 0
    | some e => u16 e.number ++ u8 e.step ++ u8 e.kind.code ++ i24 e.delta ++ i24 e.gross ++ u32 e.time
      ++ i16 (e.temp.getD (-32768)) := by
  unfold IngredientLog.held entryBytes
  cases log.entries.find? fun e => decide (e.number = n) <;> rfl

theorem IngredientLog.body_eq (log : IngredientLog) (n : Nat) : log.body n =
    let refs := log.refs.getD ⟨0, 0, 0⟩
    let oldest := (log.entries.head?.map Entry.number).getD 0
    let first := if n = 0 then oldest else n
    let slot := fun k : Nat => match log.entries.find? fun e => decide (e.number = k) with
      | none => List.replicate 16 0
      | some e => u16 e.number ++ u8 e.step ++ u8 e.kind.code ++ i24 e.delta ++ i24 e.gross ++ u32 e.time
        ++ i16 (e.temp.getD (-32768))
    u8 (log.isOpen.toNat + 2 * log.exhausted.toNat + 4 * log.refs.isSome.toNat)
      ++ u8 log.entries.length ++ u16 oldest ++ u16 log.nextNumber ++ i24 refs.origin
      ++ i24 refs.baseline ++ i24 refs.last ++ i24 log.dropped ++ slot first ++ slot (first + 1)
      ++ slot (first + 2) ++ slot (first + 3) := by
  unfold IngredientLog.body
  dsimp only
  rw [log.entryBytes_held, log.entryBytes_held, log.entryBytes_held, log.entryBytes_held]
  rfl

theorem NoticeList.body_length (l : NoticeList) : l.body.length = 146 := by
  simp only [NoticeList.body, List.length_append, u8_length, flag_length, padTo_length]

theorem State.linesBody_length (s : State) : s.linesBody.length = 3 * s.aux.lines.length := by
  have hline (l : AuxLine) : (s.lineBytes l).length = 3 := rfl
  simp [State.linesBody, List.length_flatten, hline, Function.comp_def, mul_comm]

theorem State.linesBody_eq (s : State) : s.linesBody = (s.aux.lines.map fun l : AuxLine =>
    let shown : Bool := match l.function with
      | .gpIn | .scaleTrigIn => l.pin
      | .gpOut => l.latch
      | .lidLock => s.aux.lockEngaged
      | .ventFan => decide (s.thermal.vent ≠ .off)
      | .buzzer => s.aux.buzzer.any fun b => decide (b.phase % 2 = 0)
      | .stepMark => s.aux.stepMark
      | .runLamp => s.aux.lamp
    u8 l.function.code ++ u8 l.latch.toNat ++ u8 shown.toNat).flatten := by
  unfold State.linesBody
  refine congrArg List.flatten (List.map_congr_left fun l _ => ?_)
  unfold State.lineBytes
  rw [s.readBack_eq l]
  rfl

theorem State.configBody_length (s : State) : s.configBody.length = 46 + 4 * s.thermal.table.length := by
  simp only [State.configBody, calibrationBytes, policyBytes, filterPairBytes, filterBytes, List.length_append,
    u8_length, u16_length, i16_length, i24_length, flag_length, tableBytes_length]
  omega

theorem State.configBody_eq (s : State) : s.configBody =
    let filter := fun f : Filter => u8 f.enabled.toNat ++ u8 (16 * f.code.toNat + f.mask.toNat)
    let filters := s.bus.filters
    i24 s.weigh.cal.zero ++ u16 s.weigh.cal.gain ++ i16 s.weigh.cal.tc ++ i16 s.weigh.cal.tcal
      ++ u8 s.weigh.policy.pairs ++ u8 s.weigh.policy.trigger.code ++ u16 s.weigh.policy.still
      ++ u16 s.weigh.policy.motion ++ u16 s.weigh.policy.threshold
      ++ u16 s.thermal.rh ++ u16 s.thermal.rating ++ u16 s.thermal.kmains
      ++ (s.thermal.table.map fun q => u16 q.1 ++ i16 q.2).flatten
      ++ u16 s.budget.watts ++ u8 s.safety.interval ++ u16 s.safety.limit
      ++ filter filters.console.a ++ filter filters.console.b ++ filter filters.safety.a
      ++ filter filters.safety.b ++ filter filters.link.a ++ filter filters.link.b
      ++ filter filters.service.a ++ filter filters.service.b
      ++ u8 s.bus.serviceEnable.toNat ++ u8 s.bus.highBase.toNat := by
  simp only [State.configBody, calibrationBytes, policyBytes, filterPairBytes, filterBytes, tableBytes_eq, flag,
    List.append_assoc]

end Body

/-- Settles O46: the address decides, and each view's body is written out. -/
theorem readsCaptureTheView : Obligations.ReadsCaptureTheView := by
  refine ⟨fun b => ⟨fun h => ?_, fun h => ?_, rfl, rfl, rfl, rfl⟩, fun bytes k h => readByte_round h, fun n => ?_,
    fun dt address pins p s henabled haddress => ?_, fun dt address pins s hnone => ?_⟩
  · simp [Bus.addressOf, h]
  · simp [Bus.addressOf, h]
  · rw [noticeBytes_eq]
    congr 1
    rcases n.value with _ | _ | _ | _ | _ | _ | ⟨line, _ | _⟩ <;> rfl
  · refine ⟨_, exec_readAddressPhase_of_port henabled haddress, rfl, rfl, rfl, rfl, ?_, ?_⟩
    · rw [State.viewBytes_take]
      rfl
    · dsimp only
      rw [State.viewBytes_drop, State.viewBytes_length]
      have hsame : ((s.readAt dt pins p).bus.views.get p).view = (s.bus.views.get p).view := rfl
      split
      next hview =>
        have hbody : (s.readAt dt pins p).viewBody p = s.statusBody p := by
          simp only [State.viewBody, hsame, hview]
          rfl
        rw [hbody, State.statusBody_length]
        exact ⟨rfl, s.statusBody_eq p⟩
      next hview =>
        have hbody : (s.readAt dt pins p).viewBody p = (s.bus.slots.get p).body := by
          simp only [State.viewBody, hsame, hview]
          rfl
        rw [hbody, ReplySlot.body_length]
        exact ⟨rfl, rfl⟩
      next hview =>
        have hbody : (s.readAt dt pins p).viewBody p = s.program.stepBody (s.bus.views.get p).number := by
          simp only [State.viewBody, hsame, hview]
          rfl
        rw [hbody]
        refine ⟨Program.stepBody_of_none, fun r hr => ?_⟩
        obtain ⟨heq, hlength⟩ := Program.stepBody_of_some hr
        exact ⟨heq, by omega⟩
      next hview =>
        have hbody : (s.readAt dt pins p).viewBody p =
            resultBytes (s.program.results.getD (s.bus.views.get p).number .cleared) := by
          simp only [State.viewBody, hsame, hview]
          rfl
        rw [hbody, resultBytes_length]
        refine ⟨rfl, fun r hr => ?_⟩
        rw [Option.mem_def] at hr
        rw [List.getD_eq_getElem?_getD, hr]
        rfl
      next hview =>
        have hbody : (s.readAt dt pins p).viewBody p = s.log.body (s.bus.views.get p).number := by
          simp only [State.viewBody, hsame, hview]
          rfl
        rw [hbody, IngredientLog.body_length]
        exact ⟨rfl, s.log.body_eq _⟩
      next hview =>
        have hbody : (s.readAt dt pins p).viewBody p = (s.notices.get p).body := by
          simp only [State.viewBody, hsame, hview]
          rfl
        rw [hbody, NoticeList.body_length]
        exact ⟨rfl, rfl⟩
      next hview =>
        have hbody : (s.readAt dt pins p).viewBody p = (s.readAt dt pins p).linesBody := by
          simp only [State.viewBody, hsame, hview]
        rw [hbody, State.linesBody_length]
        refine ⟨fun hlines => ?_, State.linesBody_eq _⟩
        have hkept : (s.readAt dt pins p).aux.lines.length = s.aux.lines.length := by
          simp [State.readAt, Aux.setPins]
        omega
      next hview =>
        have hbody : (s.readAt dt pins p).viewBody p = s.configBody := by
          simp only [State.viewBody, hsame, hview]
          rfl
        rw [hbody, State.configBody_length]
        exact ⟨fun htable => by omega, s.configBody_eq⟩
  · have hport : (s.after dt).bus.portAt address.toNat = none := Bus.portAt_eq_none hnone
    simp only [exec, execReadAddressPhase, hport]
    rfl

end Sys2Proof.Machine
end

section
/-! SUPPORT. The frames in which the statements about runs and safety are written, and the values that the handover of
set points leaves: then PAUSE, ABORT, manual operation and configuration (R33, R35, R36, R41, R46 to R48). -/

namespace Sys2Proof.Machine

/-! ## Frames -/

/-- Two parts whose blocks agree are the same. -/
theorem State.eq_of_blocks {s t : State} (h : t.now = s.now ∧ t.program = s.program ∧ t.run = s.run ∧
    t.weigh = s.weigh ∧ t.log = s.log ∧ t.thermal = s.thermal ∧ t.blade = s.blade ∧ t.budget = s.budget ∧
    t.converter = s.converter ∧ t.safety = s.safety ∧ t.notices = s.notices ∧ t.bus = s.bus ∧ t.aux = s.aux ∧
    t.pending = s.pending) : t = s := by
  obtain ⟨⟩ := s
  obtain ⟨⟩ := t
  simpa using h

theorem Blade.handoverFrame_of_kept {s t : Blade} (h : t.Kept s) : s.handoverFrame t := by
  obtain ⟨⟩ := t
  simpa [Blade.handoverFrame, and_assoc] using h

/-- What the run controller keeps beside set points, kind, lock and lamp, as the statements write it. -/
theorem State.handoverFrame_of_kept {s t : State} (h : t.KeptByHandover s) : s.handoverFrame t := by
  obtain ⟨hthermal, hweigh, hblade, haux⟩ := h
  refine ⟨?_, ?_, ?_, Blade.handoverFrame_of_kept hblade⟩
  · obtain ⟨tnow, tprogram, trun, tweigh, tlog, ⟨⟩⟩ := t
    simpa using hthermal
  · obtain ⟨tnow, tprogram, trun, ⟨⟩⟩ := t
    simp only [Weigh.mk.injEq] at hweigh ⊢
    grind
  · obtain ⟨tnow, tprogram, trun, tweigh, tlog, tthermal, tblade, tbudget, tconverter, tsafety, tnotices, tbus, ⟨⟩⟩ := t
    simpa using haux

/-- An answer touches the reply slot of its port alone. -/
@[simp] theorem State.answered_frame (s : State) (p : Port) (code : Byte) (result : ResultCode) (data : List Byte) :
    (s.answered p code result data).now = s.now ∧ (s.answered p code result data).program = s.program ∧
    (s.answered p code result data).run = s.run ∧ (s.answered p code result data).weigh = s.weigh ∧
    (s.answered p code result data).log = s.log ∧ (s.answered p code result data).thermal = s.thermal ∧
    (s.answered p code result data).blade = s.blade ∧ (s.answered p code result data).budget = s.budget ∧
    (s.answered p code result data).converter = s.converter ∧ (s.answered p code result data).safety = s.safety ∧
    (s.answered p code result data).notices = s.notices ∧ (s.answered p code result data).aux = s.aux ∧
    (s.answered p code result data).pending = s.pending ∧ (s.answered p code result data).runData = s.runData ∧
    (s.answered p code result data).bus =
      { s.bus with slots := s.bus.slots.set p { code := some code, result := some result, data := data } } :=
  ⟨rfl, rfl, rfl, rfl, rfl, rfl, rfl, rfl, rfl, rfl, rfl, rfl, rfl, rfl, rfl⟩

/-! ## The handover of no stir set point -/

@[simp] theorem State.handIdle_setPoint (s : State) : s.handIdle.thermal.setPoint = s.heatPoint := by
  rw [State.handIdle, State.handHeat_setPoint]
  exact State.heatPoint_eq (by simp)

@[simp] theorem State.handIdle_stir (s : State) : s.handIdle.blade.stir = .zero := by
  simp [State.handIdle]

theorem Blade.asked_of_level_zero {b : Blade} (h : b.stir.level = 0) : b.asked = 0 := by
  unfold Blade.asked
  split
  · split_ifs
    · exact h
    · rfl
  · exact h
  · exact h

theorem State.commandedLevel_of_asked {s : State} (h : s.blade.asked = 0) : s.commandedLevel = 0 := by
  simp [State.commandedLevel, h]

theorem State.commandedLevel_of_not_drives {s : State} (h : s.run.state.drives = false) : s.commandedLevel = 0 := by
  simp [State.commandedLevel_eq, h]

@[simp] theorem State.handStir_commanded (s : State) (p : StirPoint) :
    (s.handStir p).blade.commanded = (s.handStir p).commandedLevel := by
  simp [State.handStir]

@[simp] theorem State.handIdle_commanded (s : State) : s.handIdle.blade.commanded = 0 := by
  have hcommanded : s.handIdle.blade.commanded = (s.handStir .zero).commandedLevel := by simp [State.handIdle]
  rw [hcommanded]
  exact State.commandedLevel_of_asked (Blade.asked_of_level_zero (by simp [StirPoint.zero]))

/-- Without a set point there is no grant and no firing (R115). -/
theorem State.handHeat_cut {s : State} (h : s.heatPoint = none) :
    s.handHeat.thermal.grant = 0 ∧ s.handHeat.thermal.gate = false := by
  simp [State.handHeat, h]

theorem State.handIdle_cut {s : State} (h : s.run.state.halts = false) :
    s.handIdle.thermal.setPoint = none ∧ s.handIdle.thermal.grant = 0 ∧ s.handIdle.thermal.gate = false := by
  have hpoint : s.heatPoint = none := State.heatPoint_of_not_halts h
  have hstir : (s.handStir .zero).heatPoint = none := State.heatPoint_of_not_halts (by simpa using h)
  exact ⟨by simpa using hpoint, State.handHeat_cut hstir⟩

/-! ## PAUSE -/

theorem State.hold_point (s : State) : s.hold.thermal.setPoint =
    ((State.setRunState s .held).activeRecord.bind StepRecord.heat).map
      fun h => ⟨min h.target 650, h.cap, h.band⟩ := by
  simp [State.hold, State.heatPoint, keepWarmTarget]

/-- In a run another run state of the run leaves the current step as it is. -/
theorem State.activeRecord_congr {s t : State} (hin : t.run.state.inRun = s.run.state.inRun)
    (hphase : t.run.phase = s.run.phase) (hcursor : t.run.cursor = s.run.cursor)
    (hsteps : t.program.steps = s.program.steps) : t.activeRecord = s.activeRecord := by
  simp [State.activeRecord, State.stepActive, State.record, hin, hphase, hcursor, hsteps]

/-- Causes that a RUNNING run lacks hold it under keep-warm heat and without motion (R33, R35). -/
theorem State.addCauses_still {s : State} {c : CauseSet} (hstate : s.run.state = .running)
    (h : s.run.causes.union c ≠ s.run.causes) :
    (s.addCauses c).blade.commanded = 0 ∧ (s.addCauses c).blade.stir = .zero ∧
    (s.addCauses c).thermal.setPoint = (s.activeRecord.bind StepRecord.heat).map
      fun h => ⟨min h.target 650, h.cap, h.band⟩ := by
  have hrecord : (State.setRunState (s.setCauses (s.run.causes.union c)) .held).activeRecord = s.activeRecord :=
    State.activeRecord_congr (by simp [hstate]) (by simp) (by simp) (by simp)
  rw [State.addCauses_of_absent (by simp [hstate]) h, if_pos hstate]
  exact ⟨by simp [State.hold], by simp [State.hold], by rw [State.send_thermal, State.hold_point, hrecord]⟩

/-- In HELD causes only join the set. -/
theorem State.addCauses_held {s : State} {c : CauseSet} (hstate : s.run.state = .held)
    (h : s.run.causes.union c ≠ s.run.causes) : s.addCauses c =
      (s.setCauses (s.run.causes.union c)).send .held (some s.run.cursor) (some (.causes (s.run.causes.union c))) := by
  rw [State.addCauses_of_absent (by simp [hstate]) h, if_neg (by simp [hstate])]

theorem CauseSet.union_pause (c : CauseSet) : c.union { pause := true } = { c with pause := true } := by
  simp [CauseSet.union]

/-- Settles O17: the addition of PAUSE, by whether a run is in progress and whether the set holds it. -/
theorem pauseHoldsTheRun : Obligations.PauseHoldsTheRun := by
  intro p s hreach
  dsimp only
  rw [exec_of_reaches (i := .pause p) rfl rfl hreach]
  generalize s.taken (.pause p) = s1
  refine ⟨fun hin => by simp only [pauseRule, hin]; rfl, fun hin hpause => ?_, fun hin hpause => ?_⟩
  · have hpresent : s1.run.causes.union { pause := true } = s1.run.causes := by
      rw [CauseSet.union_pause, ← hpause]
    simp only [pauseRule, if_pos hin, State.addCauses_of_present hpresent]
    rfl
  have habsent : s1.run.causes.union { pause := true } ≠ s1.run.causes := by
    rw [CauseSet.union_pause]
    intro heq
    rw [← heq] at hpause
    cases hpause
  simp only [pauseRule, if_pos hin, runReply]
  refine ⟨_, rfl, ?_, ?_, by simp, fun hheld => ?_, fun hrunning => ?_, ?_, ?_⟩
  · simp [State.addCauses_run hin habsent, CauseSet.union_pause]
  · simp [State.addCauses_run hin habsent, State.addCauses_notices hin habsent, CauseSet.union_pause]
  · exact State.eq_of_blocks (by simp [State.addCauses_held hheld habsent])
  · exact State.addCauses_still hrunning habsent
  · exact State.handoverFrame_of_kept (by simp)
  · exact State.eq_of_blocks (by simp)

/-! ## Results -/

theorem Program.eq_with_results {p q : Program} (h : q.steps = p.steps ∧ q.hold0 = p.hold0 ∧ q.hold1 = p.hold1) : q = { p with results := q.results } := by
  obtain ⟨⟩ := q
  simp_all

theorem State.outcomeAt_congr {s t : State} (h : t.program.results = s.program.results) :
    t.outcomeAt = s.outcomeAt := by
  funext i
  simp [State.outcomeAt, h]

/-- The result that an edit leaves at the cursor. -/
theorem Program.editResult_at {p : Program} {i : Nat} (h : i < p.results.length) (f : StepResult → StepResult) :
    (p.editResult i f).results[i]? = some (f (p.results.getD i .cleared)) := by
  simp [Program.editResult, h]

theorem Program.editResult_elsewhere {p : Program} {i j : Nat} (h : j ≠ i) (f : StepResult → StepResult) :
    (p.editResult i f).results[j]? = p.results[j]? := by
  simp [Program.editResult, h.symm]

theorem State.outcomeAt_editResult {s : State} (h : s.run.cursor < s.program.results.length)
    (f : StepResult → StepResult) : (s.editResult f).outcomeAt s.run.cursor =
      some ((f (s.program.results.getD s.run.cursor .cleared)).outcome,
        (f (s.program.results.getD s.run.cursor .cleared)).reason) := by
  simp [State.outcomeAt, Program.editResult_at h]

theorem State.outcomeAt_closeResult {s : State} (h : s.run.cursor < s.program.results.length) (o : StepOutcome)
    (e : Option EndReason) : (s.closeResult o e).outcomeAt s.run.cursor = some (o, e) :=
  State.outcomeAt_editResult h _

/-! ## ABORT -/

theorem State.abortsStep_iff {s : State} (hcursor : s.run.cursor < s.program.results.length) :
    s.abortsStep = true ↔ (s.run.state.inRun = true ∧ s.run.phase = .active) ∨
      (s.run.state = .halted ∧ (s.outcomeAt s.run.cursor).map Prod.fst = some .active) := by
  simp [State.abortsStep, State.stepActive, State.outcomeAt, hcursor]

theorem State.abortRun_program (s : State) :
    s.abortRun.program = if s.abortsStep then (s.closeResult .aborted none).program else s.program := by
  unfold State.abortRun
  dsimp only
  split_ifs <;> simp

/-- What an ABORT leaves of the set points (R41). -/
theorem State.abortRun_still (s : State) : s.abortRun.log = { s.log with isOpen := false } ∧
    s.abortRun.thermal.setPoint = none ∧ s.abortRun.thermal.grant = 0 ∧ s.abortRun.blade.commanded = 0 ∧
    s.abortRun.blade.stir = .zero := by
  unfold State.abortRun
  dsimp only
  obtain ⟨hpoint, hgrant, -⟩ := State.handIdle_cut (s := ((((State.setCauses
    (if s.abortsStep then s.closeResult .aborted none else s) {}).setPhase .beforeEntry).clearManual).setRunState
      s.restState).closeLog) (by simp)
  refine ⟨?_, hpoint, hgrant, State.handIdle_commanded _, State.handIdle_stir _⟩
  split_ifs <;> simp

theorem State.abortRun_handover (s : State) : s.abortRun.KeptByHandover s := by
  unfold State.abortRun
  dsimp only
  split_ifs <;> simp

/-- Settles O22: the states that end what goes on, with the result of a step that was ACTIVE. -/
theorem abortEndsTheRun : Obligations.AbortEndsTheRun := by
  intro p s hreach
  dsimp only
  rw [exec_of_reaches (i := .abort p) rfl rfl hreach]
  generalize s.taken (.abort p) = s1
  have hrule (legal : s1.run.state = .running ∨ s1.run.state = .held ∨ s1.run.state = .halted ∨
      s1.run.state = .manual) : abortRule s1 = runReply s1.abortRun .ok := by
    rcases legal with h | h | h | h <;> simp only [abortRule, h]
  refine ⟨fun hnot => ?_, fun legal hcursor => ?_⟩
  · simp only [not_or] at hnot
    obtain ⟨hrunning, hheld, hhalted, hmanual⟩ := hnot
    cases hstate : s1.run.state <;> simp only [hstate, not_true_eq_false] at hrunning hheld hhalted hmanual <;>
      simp only [abortRule, hstate] <;> rfl
  have hprogram := s1.abortRun_program
  obtain ⟨hlog, hpoint, hgrant, hcommanded, hstir⟩ := s1.abortRun_still
  refine ⟨s1.abortRun.answered p 0x43 .ok s1.abortRun.runData, by rw [hrule legal]; rfl, by simp, ?_, ?_, ?_, ?_, ?_, ?_,
    fun hactive => ?_, fun hnot => ?_, State.handoverFrame_of_kept ?_, State.eq_of_blocks ?_⟩
  · simp [State.abortRun_run, State.restState]
  · simp [hlog]
  · simp [hpoint]
  · simp [hgrant]
  · simp [hcommanded]
  · simp [hstir]
  · rw [if_pos ((State.abortsStep_iff hcursor).mpr hactive)] at hprogram
    rw [State.outcomeAt_congr (s := s1.closeResult .aborted none) (by simp [hprogram])]
    exact State.outcomeAt_closeResult hcursor _ _
  · rw [if_neg (mt (State.abortsStep_iff hcursor).mp hnot)] at hprogram
    simp [hprogram]
  · simpa using s1.abortRun_handover
  · simpa using Program.eq_with_results (p := s1.program) (q := s1.abortRun.program) (by simp)

/-! ## Manual operation -/

theorem State.endManual_still (s : State) : s.endManual.blade.commanded = 0 ∧ s.endManual.thermal.setPoint = none ∧
    s.endManual.thermal.grant = 0 ∧ s.endManual.thermal.gate = false := by
  obtain ⟨hpoint, hcut⟩ := State.handIdle_cut (s := s.clearManual.setRunState s.restState) (by simp)
  exact ⟨State.handIdle_commanded _, hpoint, hcut⟩

/-- What MANUAL STOP, and MANUAL SET of nothing, leave (R46, R47). -/
theorem answered_endManual (s : State) (p : Port) (code : Byte) :
    let t := s.endManual.answered p code .ok s.endManual.runData
    t.run = { s.run with
      state := if s.program.length = 0 then .idle else .ready, manualLevel := 0, manualHeat := none } ∧
    t.blade.commanded = 0 ∧ t.thermal.setPoint = none ∧ t.thermal.grant = 0 ∧
    t.bus = (s.answered p code .ok t.runData).bus ∧ s.handoverFrame t ∧
    t = { s with
      run := t.run, thermal := t.thermal, weigh := t.weigh, blade := t.blade, bus := t.bus, aux := t.aux } := by
  obtain ⟨hcommanded, hpoint, hgrant, -⟩ := s.endManual_still
  exact ⟨by simp [State.restState], hcommanded, hpoint, hgrant, by simp, State.handoverFrame_of_kept (by simp),
    State.eq_of_blocks (by simp)⟩

theorem RunState.allowsManual_eq_false {r : RunState} (h : r ≠ .faulted) :
    (!r.allowsManual) = true ↔ r.inRun = true ∨ r = .config ∨ r = .halted := by
  cases r <;> simp_all [RunState.allowsManual, RunState.inRun]

/-- The interlocks of R46 for a request. -/
theorem State.manualInterlocks_clear {s : State} {l : Nat} {heat : Bool} :
    (s.manualInterlocks l heat).isEmpty = false ↔ s.safety.lidClosed.active = false ∨ s.thermal.mains = .lost ∨
      (0 < l ∧ (s.safety.motionPermit.active = false ∨ ¬ s.safety.lease = .live)) ∨
      (heat = true ∧ (s.safety.heatPermit.active = false ∨ ¬ s.safety.lease = .live ∨
        s.thermal.base.isValid = false)) := by
  rw [CauseSet.isEmpty_eq, CauseSet.hasInterlock_eq]
  simp only [State.manualInterlocks, State.leaseLive, State.mainsLost, Bool.not_eq_false', Bool.or_eq_true,
    Bool.and_eq_true, Bool.not_eq_true', decide_eq_true_eq, decide_eq_false_iff_not, Bool.false_eq_true, false_or,
    or_false]
  tauto

/-- What MANUAL SET leaves of the set points, where no interlock concerns them (R46). -/
theorem State.setManual_values {s : State} {l : Nat} {heat : Option (Nat × Nat)} (hlatch : s.safety.stopLatch = false)
    (hclear : (s.manualInterlocks l heat.isSome).isEmpty = true) :
    (s.setManual l heat).blade.stir = { level := l, direction := some .forward, pattern := .continuous } ∧
    (s.setManual l heat).blade.commanded = l ∧
    (s.setManual l heat).thermal.setPoint = (heat.map fun h => ⟨h.1, h.2, 50⟩) ∧
    (s.setManual l heat).budget = { s.budget with ceiling := none, overCount := 0, underCount := 0 } := by
  have hstir : (s.setManual l heat).blade.stir = { level := l, direction := some .forward, pattern := .continuous } := by
    simp [State.setManual]
  have hcommanded : (s.setManual l heat).blade.commanded = (s.setManual l heat).commandedLevel := by
    simp [State.setManual]
  have hlevel : (s.setManual l heat).commandedLevel = l := by
    have hasked : (s.setManual l heat).blade.asked = l := by simp [Blade.asked, hstir]
    by_cases hl : l = 0
    · rw [State.commandedLevel_of_asked (hasked.trans hl), hl]
    have hopen := mt State.manualInterlocks_clear.mpr (by simp [hclear] : ¬ (s.manualInterlocks l heat.isSome).isEmpty = false)
    simp only [not_or, not_and, not_not] at hopen
    obtain ⟨hlid, hmains, hmotion, -⟩ := hopen
    obtain ⟨hpermit, hlease⟩ := hmotion (Nat.pos_of_ne_zero hl)
    have henabled : (s.setManual l heat).motionEnabled = true := by
      simp [State.motionEnabled, State.leaseLive, State.mainsLost, hlatch, hpermit, hlease, hlid, hmains]
    rw [State.commandedLevel_eq, henabled, hasked]
    simp [RunState.drives]
  refine ⟨hstir, hcommanded.trans hlevel, ?_, by simp [State.setManual]⟩
  simp [State.setManual, State.heatPoint, defaultBand]

/-- What MANUAL SET leaves, where no interlock concerns the request (R46). -/
theorem answered_setManual {s : State} {l : Nat} {heat : Option (Nat × Nat)} (hlatch : s.safety.stopLatch = false)
    (hclear : (s.manualInterlocks l heat.isSome).isEmpty = true) (p : Port) {result given : ResultCode}
    (hresult : result = given) :
    let t := (s.setManual l heat).answered p 0x80 result (s.setManual l heat).runData
    t.run = { s.run with state := .manual, manualLevel := l, manualHeat := heat } ∧
    t.blade.stir = { level := l, direction := some .forward, pattern := .continuous } ∧
    t.blade.commanded = l ∧ t.thermal.setPoint = (heat.map fun h => ⟨h.1, h.2, 50⟩) ∧
    t.budget = { s.budget with ceiling := none, overCount := 0, underCount := 0 } ∧
    t.bus = (s.answered p 0x80 given t.runData).bus ∧ s.handoverFrame t ∧
    t = { s with
      run := t.run, thermal := t.thermal, weigh := t.weigh, blade := t.blade, budget := t.budget
      bus := t.bus, aux := t.aux } := by
  obtain ⟨hstir, hcommanded, hpoint, hbudget⟩ := State.setManual_values hlatch hclear
  exact ⟨by simp, by simp [hstir], by simp [hcommanded], by simp [hpoint], by simp [hbudget], by simp [hresult],
    State.handoverFrame_of_kept (by simp), State.eq_of_blocks (by simp)⟩

/-- Settles O31: the checks of R46 in their order, and the end by R47. -/
theorem manualOperationStartsAndEnds : Obligations.ManualOperationStartsAndEnds := by
  refine ⟨fun p level heatPresent target cap s hreach => ?_, fun p s hreach => ?_⟩
  · have hstates := RunState.allowsManual_eq_false
      (State.not_faulted_of_reaches (p := p) rfl hreach (by decide) (by decide) (by decide))
    dsimp only
    rw [exec_of_reaches (i := .manualSet p level heatPresent target cap) rfl rfl hreach]
    generalize s.taken (.manualSet p level heatPresent target cap) = s1 at hstates ⊢
    have hlevel : clampNat 0 12 level.toNat = min 12 level.toNat := by
      rw [clampNat_eq_max_min (by decide), Nat.max_eq_right (Nat.zero_le _)]
    have hbyte : heatPresent.toNat = 1 ↔ heatPresent = 1 := by
      rw [← BitVec.toNat_inj]
      rfl
    simp only [manualSetRule, hstates, one_lt_toNat_iff, hlevel, hbyte,
      clampNat_eq_max_min (show 300 ≤ 1600 by decide), clampNat_eq_max_min (show 50 ≤ 1500 by decide)]
    generalize min 12 level.toNat = l
    generalize max 300 (min 1600 target.toNat) = x
    generalize max 50 (min 1500 cap.toNat) = c
    by_cases hstate : s1.run.state.inRun = true ∨ s1.run.state = .config ∨ s1.run.state = .halted
    · simp only [if_pos hstate]
      rfl
    by_cases hchoice : heatPresent ≠ 0 ∧ heatPresent ≠ 1
    · simp only [if_neg hstate, if_pos hchoice]
      rfl
    obtain ⟨heat, hdef⟩ : ∃ heat : Option (Nat × Nat), heat = if heatPresent = 1 then some (x, c) else none := ⟨_, rfl⟩
    have hpresent : heat = none ↔ heatPresent = 0 := by
      by_cases h1 : heatPresent = 1
      · simp [hdef, h1]
      · simp [hdef]
        tauto
    have hheat : heat.isSome = true ↔ heatPresent = 1 := by
      rw [hdef]
      split_ifs <;> simp_all
    have hpoint : (if heatPresent = 1 then some (HeatPoint.mk x c 50) else none) =
        heat.map fun h => HeatPoint.mk h.1 h.2 50 := by
      rw [hdef]
      split_ifs <;> rfl
    have hclear := State.manualInterlocks_clear (s := s1) (l := l) (heat := heat.isSome)
    rw [hheat] at hclear
    simp only [← hdef, if_neg hstate, if_neg hchoice, hpresent, ← hclear, hpoint]
    by_cases hnothing : l = 0 ∧ heatPresent = 0
    · simp only [if_pos hnothing]
      refine ⟨fun hother => ?_, fun hmanual => ?_⟩
      · simp only [if_neg hother]
        rfl
      · simp only [if_pos hmanual]
        obtain ⟨hrun, hcommanded, hpoint, hgrant, hbus, hframe, -⟩ := answered_endManual s1 p 0x80
        exact ⟨_, rfl, hrun, hcommanded, hpoint, hgrant, hbus, hframe⟩
    simp only [if_neg hnothing]
    by_cases hlatch : s1.safety.stopLatch = true
    · simp only [if_pos hlatch, if_pos (Or.inl hlatch : _ ∨ _)]
      rfl
    by_cases hopen : (s1.manualInterlocks l heat.isSome).isEmpty = true
    · have hno : ¬ (s1.safety.stopLatch = true ∨ (s1.manualInterlocks l heat.isSome).isEmpty = false) := by
        rintro (h | h)
        · exact hlatch h
        · rw [hopen] at h
          cases h
      simp only [if_neg hlatch, if_pos hopen, if_neg hno]
      refine ⟨_, rfl, answered_setManual (by simpa using hlatch) hopen p ?_⟩
      simp only [okOr, Bool.or_eq_true, Bool.and_eq_true, bne_iff_ne, hheat]
      rfl
    · simp only [if_neg hlatch, if_neg hopen, if_pos (Or.inr (by simpa using hopen) : _ ∨ _)]
      rfl
  · dsimp only
    rw [exec_of_reaches (i := .manualStop p) rfl rfl hreach]
    generalize s.taken (.manualStop p) = s1
    refine ⟨fun hother => by simp only [manualStopRule, if_neg hother]; rfl, fun hmanual => ?_⟩
    simp only [manualStopRule, if_pos hmanual]
    exact ⟨_, rfl, answered_endManual s1 p 0x81⟩

/-! ## Configuration -/

/-- Settles O32: the three states of entry, and CONFIG for the exit. -/
theorem configIsEnteredAndLeft : Obligations.ConfigIsEnteredAndLeft := by
  refine ⟨fun p s hreach => ?_, fun p s hreach => ?_⟩
  · dsimp only
    rw [exec_of_reaches (i := .enterConfig p) rfl rfl hreach]
    generalize s.taken (.enterConfig p) = s1
    refine ⟨fun hnot => ?_, fun legal => ?_⟩
    · simp only [not_or] at hnot
      obtain ⟨hidle, hready, hdone⟩ := hnot
      cases hstate : s1.run.state <;> simp only [hstate, not_true_eq_false] at hidle hready hdone <;>
        simp only [enterConfigRule, hstate] <;> rfl
    have hrule : enterConfigRule s1 = runReply (s1.setRunState .config).handIdle .ok := by
      rcases legal with h | h | h <;> simp only [enterConfigRule, h]
    obtain ⟨hpoint, hgrant, -⟩ := State.handIdle_cut (s := s1.setRunState .config) rfl
    simp only [hrule, runReply]
    exact ⟨_, rfl, by simp, by simp, hpoint, hgrant, by simp, State.handoverFrame_of_kept (by simp),
      State.eq_of_blocks (by simp)⟩
  · dsimp only
    rw [exec_of_reaches (i := .leaveConfig p) rfl rfl hreach]
    generalize s.taken (.leaveConfig p) = s1
    refine ⟨fun hother => by simp only [leaveConfigRule, inConfig, if_neg hother]; rfl, fun hconfig => ?_⟩
    simp only [leaveConfigRule, inConfig, if_pos hconfig, State.setRunState_dark s1.restState_place.2.2]
    exact ⟨_, rfl, rfl, rfl, rfl⟩

end Sys2Proof.Machine
end

section
/-! SUPPORT. A run from its start to its end: the entry of a step stage by stage, the exit of one, and START, RESUME,
SKIP and CONFIRM (R24 to R31, R37 to R40). -/

namespace Sys2Proof.Machine

/-! ## Notices sent in turn -/

theorem State.noticesAfterAll_nil (s : State) : s.noticesAfterAll [] = s.notices := rfl

theorem State.noticesAfterAll_cons (s : State) (n : Sent) (l : List Sent) : s.noticesAfterAll (n :: l) =
    State.noticesAfterAll { s with notices := s.noticesAfter n.1 n.2.1 n.2.2 } l := rfl

theorem State.noticesAfterAll_congr {s t : State} (hnotices : t.notices = s.notices)
    (hclock : t.run.clock = s.run.clock) (l : List Sent) : t.noticesAfterAll l = s.noticesAfterAll l := by
  induction l generalizing s t with
  | nil => exact hnotices
  | cons n l ih =>
    rw [State.noticesAfterAll_cons, State.noticesAfterAll_cons]
    exact ih (by simp [State.noticesAfter_congr hnotices hclock]) hclock

theorem State.noticesAfterAll_append (s : State) (l l' : List Sent) :
    s.noticesAfterAll (l ++ l') = State.noticesAfterAll { s with notices := s.noticesAfterAll l } l' := by
  induction l generalizing s with
  | nil => rfl
  | cons n l ih => rw [List.cons_append, State.noticesAfterAll_cons, ih]; rfl

/-! ## Stages 1 to 6 of an entry -/

theorem Weigh.eq_of_kept {v w : Weigh} (h : w.Kept v) {timer : Option Nat} {armed : Bool}
    (htimer : w.tareTimer = timer) (harmed : w.nearArmed = armed) :
    w = { v with kind := w.kind, tareTimer := timer, nearArmed := armed } := by
  obtain ⟨⟩ := w
  simp_all

theorem Thermal.eq_of_kept {t u : Thermal} (h : u.Kept t) {point : Option HeatPoint} {grant : Nat} {gate : Bool}
    (hpoint : u.setPoint = point) (hgrant : u.grant = grant) (hgate : u.gate = gate) :
    u = { t with setPoint := point, grant := grant, gate := gate, vent := u.vent } := by
  obtain ⟨⟩ := u
  simp_all

theorem Aux.eq_of_fields {a b : Aux} (hlines : b.lines = a.lines) {sounding : Option Sounding} {mark lamp : Bool}
    {due : Nat} (hbuzzer : b.buzzer = sounding) (hmark : b.stepMark = mark) (hlamp : b.lamp = lamp)
    (hdue : b.lampDue = due) : b = { a with
      lamp := lamp, lampDue := due, lockEngaged := b.lockEngaged, lockedAt := b.lockedAt, stepMark := mark
      buzzer := sounding } := by
  obtain ⟨⟩ := b
  simp_all

/-- A set point of none, or one whose cap is below the grant, cuts the grant (R115). -/
theorem State.handHeat_grant (s : State) :
    s.handHeat.thermal.grant = (if ∀ p ∈ s.heatPoint, p.cap < s.thermal.grant then 0 else s.thermal.grant) ∧
    s.handHeat.thermal.gate = (if ∀ p ∈ s.heatPoint, p.cap < s.thermal.grant then false else s.thermal.gate) := by
  have hcond : (s.heatPoint.all fun p => decide (p.cap < s.thermal.grant)) = true ↔
      ∀ p ∈ s.heatPoint, p.cap < s.thermal.grant := by cases s.heatPoint <;> simp
  unfold State.handHeat
  dsimp only
  simp only [hcond]
  split_ifs
  · exact ⟨State.cutGrant_grant _, State.cutGrant_gate _⟩
  · exact ⟨rfl, rfl⟩

theorem State.requestTare_timer (s : State) :
    s.requestTare.weigh.tareTimer = some (s.weigh.tareTimer.getD (s.now + 15000000)) := by
  unfold State.requestTare
  split <;> simp_all [Config.sec]

theorem State.prepareStep_weigh (s : State) (r : StepRecord) : (s.prepareStep r).weigh = { s.weigh with
    kind := (s.prepareStep r).weigh.kind
    tareTimer := if r.autoTare then some (s.weigh.tareTimer.getD (s.now + 15000000)) else s.weigh.tareTimer
    nearArmed := s.weigh.nearArmed || r.weigh.isSome } := by
  have hbegun : (s.beginStep r).weigh.tareTimer =
        (if r.autoTare then some (s.weigh.tareTimer.getD (s.now + 15000000)) else s.weigh.tareTimer) ∧
      (s.beginStep r).weigh.nearArmed = (s.weigh.nearArmed || r.weigh.isSome) := by
    unfold State.beginStep
    dsimp only
    split_ifs
    · exact ⟨State.requestTare_timer _, by simp⟩
    · exact ⟨rfl, rfl⟩
  obtain ⟨htimer, harmed⟩ := hbegun
  exact Weigh.eq_of_kept (by simp [State.prepareStep]) (by simp [State.prepareStep, htimer])
    (by simp [State.prepareStep, harmed])

theorem State.prepareStep_heatPoint {s : State} {r : StepRecord} (hr : s.record = some r)
    (hstate : s.run.state = .running) : (s.beginStep r).removeDerate.heatPoint =
      r.heat.map fun h => ⟨h.target, h.cap, h.band⟩ := by
  have hactive : (s.beginStep r).removeDerate.activeRecord = some r := by
    simpa [State.activeRecord, State.stepActive, State.record, hstate] using hr
  simp [State.heatPoint, hstate, hactive]

theorem State.prepareStep_thermal {s : State} {r : StepRecord} (hr : s.record = some r)
    (hstate : s.run.state = .running) : (s.prepareStep r).thermal = { s.thermal with
      setPoint := r.heat.map fun h => ⟨h.target, h.cap, h.band⟩
      grant := if ∀ h ∈ r.heat, h.cap < s.thermal.grant then 0 else s.thermal.grant
      gate := if ∀ h ∈ r.heat, h.cap < s.thermal.grant then false else s.thermal.gate
      vent := (s.prepareStep r).thermal.vent } := by
  obtain ⟨hgrant, hgate⟩ := State.handHeat_grant (s.beginStep r).removeDerate
  have hcap : (∀ p ∈ r.heat.map (fun h => HeatPoint.mk h.target h.cap h.band), p.cap < s.thermal.grant) ↔
      ∀ h ∈ r.heat, h.cap < s.thermal.grant := by simp
  simp only [State.prepareStep_heatPoint hr hstate, State.removeDerate_frame, State.beginStep_frame, hcap] at hgrant hgate
  exact Thermal.eq_of_kept (by simp [State.prepareStep])
    (by simp [State.prepareStep, State.prepareStep_heatPoint hr hstate])
    (by simp [State.prepareStep, hgrant]) (by simp [State.prepareStep, hgate])

theorem State.announceStep_notices (s : State) (r : StepRecord) : (s.announceStep r).notices = s.noticesAfterAll
    ((.stepBegin, some s.run.cursor, none) ::
      (r.prompt.map fun code => (.prompt, some s.run.cursor, some (.promptCode code))).toList) := by
  unfold State.announceStep
  cases r.prompt <;> rfl

theorem State.prepareStep_notices (s : State) (r : StepRecord) : (s.prepareStep r).notices = s.noticesAfterAll
    ((.stepBegin, some s.run.cursor, none) ::
      (r.prompt.map fun code => (.prompt, some s.run.cursor, some (.promptCode code))).toList) := by
  unfold State.prepareStep
  rw [State.announceStep_notices]
  simp only [State.handStir_frame, State.handHeat_frame, State.removeDerate_frame, State.beginStep_run]
  exact State.noticesAfterAll_congr (by simp) (by simp) _

theorem State.announceStep_buzzer (s : State) (r : StepRecord) : (s.announceStep r).aux.buzzer =
    if r.prompt.isSome then some ⟨0, s.now + 600000⟩ else s.aux.buzzer := by
  unfold State.announceStep
  cases r.prompt <;> rfl

/-- What stages 1 to 6 of an entry leave of the part, before the interlocks are examined (R26). -/
theorem State.prepareStep_blocks {s : State} {r : StepRecord} :
    (s.prepareStep r).program = { s.program with results := s.program.results.set s.run.cursor .entered } ∧
    (s.prepareStep r).budget = { s.budget with ceiling := none, overCount := 0, underCount := 0 } ∧
    s.blade.handoverFrame (s.prepareStep r).blade ∧ (s.prepareStep r).blade.stir = r.stirPoint ∧
    (s.prepareStep r).blade.commanded = (s.prepareStep r).commandedLevel ∧
    (s.prepareStep r).aux = { s.aux with
      lamp := s.aux.lamp, lampDue := s.aux.lampDue, lockEngaged := (s.prepareStep r).aux.lockEngaged
      lockedAt := (s.prepareStep r).aux.lockedAt, stepMark := !s.aux.stepMark
      buzzer := if r.prompt.isSome then some ⟨0, s.now + 600000⟩ else s.aux.buzzer } := by
  refine ⟨by simp [State.prepareStep, Program.editResult], by simp [State.prepareStep],
    Blade.handoverFrame_of_kept (by simp [State.prepareStep]), by simp [State.prepareStep], ?_,
    Aux.eq_of_fields (by simp [State.prepareStep]) ?_ (by simp [State.prepareStep]) (by simp [State.prepareStep])
      (by simp [State.prepareStep])⟩
  · have hlevel (u : State) : (u.announceStep r).commandedLevel = u.commandedLevel :=
      State.commandedLevel_congr (by simp) (by simp)
    simp only [State.prepareStep, State.announceStep_frame, State.handStir_commanded, hlevel]
  · rw [State.prepareStep, State.announceStep_buzzer]
    simp

/-! ## The examination at an entry -/

theorem CauseSet.diff_empty (c : CauseSet) : c.diff {} = c := by simp [CauseSet.diff]

/-- The examination of a RUNNING run finds no interlock, or holds the run (R33, R34). -/
theorem State.examineRun_of_running {s : State} (hstate : s.run.state = .running) (hcauses : s.run.causes = {}) :
    (s.stepInterlocks = {} → s.examineRun = s) ∧
    (s.stepInterlocks ≠ {} → s.examineRun = ((s.setCauses { s.stepInterlocks with ack := true }).hold).send .held
      (some s.run.cursor) (some (.causes { s.stepInterlocks with ack := true }))) := by
  have hin : s.run.state.inRun = true := by simp [hstate]
  have hbegins : s.begins = false ↔ s.stepInterlocks = {} := by
    rw [State.begins_eq_false, hcauses, CauseSet.diff_empty]
  refine ⟨fun hclear => ?_, fun hsome => ?_⟩
  · have hsame : s.examinedCauses = s.run.causes := by
      simp [State.examinedCauses, hclear, hbegins.mpr hclear, hcauses]
    rw [State.examineRun_of_quiet hin (hbegins.mpr hclear), hsame]
    rfl
  · have hsome : s.begins = true := by simpa [← hbegins] using hsome
    have hkept : s.keptCauses = {} := by simp [State.keptCauses, hcauses, CauseSet.union, CauseSet.inter,
      CauseSet.others, CauseSet.interlocks]
    have hbegun : s.begunCauses = { s.stepInterlocks with ack := true } := by
      rw [State.begunCauses_of_begins hsome, hcauses, CauseSet.diff_empty]
    have hack : ({ s.stepInterlocks with ack := true } : CauseSet).ack = true := rfl
    rw [State.examineRun_of_begins hin hsome, hkept, hbegun]
    generalize ({ s.stepInterlocks with ack := true } : CauseSet) = c at hack
    have hunion : CauseSet.union {} c = c := by simp [CauseSet.union]
    have hne : c ≠ {} := by rintro rfl; cases hack
    have habsent : (s.setCauses {}).run.causes.union c ≠ (s.setCauses {}).run.causes := by
      simpa [hunion] using hne
    have hnext : (s.setCauses {}).run.causes.union c = c := hunion
    rw [State.addCauses_of_absent (by simpa using hin) habsent, if_pos (by simpa using hstate), hnext]
    rfl

/-! ## The whole entry -/

theorem State.hold_thermal {s : State} : s.hold.thermal = { s.thermal with
    setPoint := s.hold.heatPoint
    grant := if ∀ p ∈ s.hold.heatPoint, p.cap < s.thermal.grant then 0 else s.thermal.grant
    gate := if ∀ p ∈ s.hold.heatPoint, p.cap < s.thermal.grant then false else s.thermal.gate
    vent := s.hold.thermal.vent } := by
  have hpoint : s.hold.heatPoint = ((s.setRunState .held).handStir .zero).heatPoint := State.heatPoint_eq (by simp [State.hold])
  obtain ⟨hgrant, hgate⟩ := State.handHeat_grant ((s.setRunState .held).handStir .zero)
  simp only [State.handStir_frame, State.setRunState_thermal] at hgrant hgate
  rw [hpoint]
  exact Thermal.eq_of_kept (by simp) (by simp [State.hold, State.handIdle]) hgrant hgate

theorem State.hold_aux {s : State} (hstate : s.run.state = .running) : s.hold.aux = { s.aux with
    lamp := true, lampDue := s.now + 1500000, lockEngaged := s.hold.aux.lockEngaged
    lockedAt := s.hold.aux.lockedAt } := by
  have hlamp : (s.setRunState .held).aux = { s.aux with lamp := true, lampDue := s.now + 1500000 } := by
    simp [State.setRunState, hstate, blinkTime, Config.ms]
  exact Aux.eq_of_fields (sounding := s.aux.buzzer) (mark := s.aux.stepMark) (by simp) (by simp) (by simp)
    (by simp [State.hold, hlamp]) (by simp [State.hold, hlamp])

/-- The entry of the step at the cursor of a RUNNING run, as the statements write it (R26). -/
theorem State.enterStep_entered {s : State} {r : StepRecord} (hr : s.record = some r)
    (hstate : s.run.state = .running) (hcauses : s.run.causes = {}) (hlamp : s.aux.lamp = true) :
    s.entered s.enterStep r := by
  obtain ⟨hprogram, hbudget, hblade, hstir, hcommanded, haux⟩ := s.prepareStep_blocks (r := r)
  have hthermal := State.prepareStep_thermal hr hstate
  have hweigh := s.prepareStep_weigh r
  have hnotices := s.prepareStep_notices r
  have hrun := s.prepareStep_run r
  rw [State.enterStep_eq hr]
  obtain ⟨hquiet, hheld⟩ := State.examineRun_of_running (s := s.prepareStep r) (by simp [hstate]) (by simp [hcauses])
  have hsame := (s.prepareStep r).examineRun_stepInterlocks
  by_cases hclear : (s.prepareStep r).stepInterlocks = {}
  · have hnot : ¬ (s.prepareStep r).stepInterlocks ≠ {} := not_not_intro hclear
    rw [hquiet hclear]
    simp only [State.entered, if_neg hnot, List.append_nil]
    exact ⟨hprogram, by simp [hstate, hcauses], hweigh, hbudget, hthermal, hblade, hstir, hcommanded, hnotices,
      by simpa [hlamp] using haux⟩
  · rw [hheld hclear] at hsame ⊢
    simp only [State.entered, hsame, if_pos hclear]
    have hrunning : ((s.prepareStep r).setCauses { (s.prepareStep r).stepInterlocks with ack := true }).run.state =
        .running := by simp [hstate]
    have hheat := State.hold_thermal (s := (s.prepareStep r).setCauses { (s.prepareStep r).stepInterlocks with ack := true })
    have hlamp := State.hold_aux hrunning
    have hpoint : ((s.prepareStep r).setCauses { (s.prepareStep r).stepInterlocks with ack := true }).hold.heatPoint =
        r.heat.map fun h => ⟨min h.target 650, h.cap, h.band⟩ := by
      simp only [State.record] at hr
      simp [State.heatPoint, State.activeRecord, State.stepActive, State.record, keepWarmTarget, hr]
    have hcut : (∀ p ∈ r.heat.map (fun h => HeatPoint.mk (min h.target 650) h.cap h.band),
          p.cap < (s.prepareStep r).thermal.grant) ↔ ∀ h ∈ r.heat, h.cap < (s.prepareStep r).thermal.grant := by simp
    rw [hpoint] at hheat
    simp only [hcut, State.setCauses_thermal] at hheat
    refine ⟨by simp [Program.editResult], by simp, Weigh.eq_of_kept (by simp [State.prepareStep]) ?_ ?_, by simp [hbudget],
      Thermal.eq_of_kept (by simp [State.prepareStep]) ?_ ?_ ?_,
      Blade.handoverFrame_of_kept (by simp [State.prepareStep]), by simp [State.hold], ?_, ?_,
      Aux.eq_of_fields (by simp [State.prepareStep]) ?_ ?_ ?_ ?_⟩
    · simpa using congrArg Weigh.tareTimer hweigh
    · simpa using congrArg Weigh.nearArmed hweigh
    · exact congrArg Thermal.setPoint hheat
    · refine (congrArg Thermal.grant hheat).trans ?_
      have hgrant := congrArg Thermal.grant hthermal
      by_cases hcap : ∀ h ∈ r.heat, h.cap < s.thermal.grant
      · simp only [if_pos hcap] at hgrant ⊢
        simp [hgrant]
      · simp only [if_neg hcap] at hgrant ⊢
        rw [hgrant, if_neg hcap]
    · refine (congrArg Thermal.gate hheat).trans ?_
      have hgrant := congrArg Thermal.grant hthermal
      have hgate := congrArg Thermal.gate hthermal
      by_cases hcap : ∀ h ∈ r.heat, h.cap < s.thermal.grant
      · simp only [if_pos hcap] at hgate ⊢
        simp [hgate]
      · simp only [if_neg hcap] at hgrant hgate ⊢
        rw [hgrant, if_neg hcap, hgate]
    · rw [State.send_blade, State.commandedLevel_of_not_drives (by simp [RunState.drives])]
      simp [State.hold]
    · rw [← List.cons_append, State.noticesAfterAll_append, ← hnotices, State.send_notices]
      rw [State.noticesAfter_congr (s := { s with notices := (s.prepareStep r).notices }) (by simp) (by simp)]
      simp [State.noticesAfterAll_cons, State.noticesAfterAll_nil]
    · simpa using congrArg Aux.buzzer haux
    · simpa using congrArg Aux.stepMark haux
    · exact congrArg Aux.lamp hlamp
    · simpa using congrArg Aux.lampDue hlamp

/-- What an entry is written against: all but run state, phase, counts, causes and lamp. -/
abbrev State.SameBeforeEntry (u b : State) : Prop :=
  u.now = b.now ∧ u.program = b.program ∧ u.weigh = b.weigh ∧ u.budget = b.budget ∧ u.thermal = b.thermal ∧
  u.blade = b.blade ∧ u.notices = b.notices ∧ u.run.cursor = b.run.cursor ∧ u.run.clock = b.run.clock ∧
  u.run.manualLevel = b.run.manualLevel ∧ u.run.manualHeat = b.run.manualHeat ∧ u.aux = { b.aux with lamp := u.aux.lamp }

theorem State.entered_congr {u b t : State} {r : StepRecord} (h : u.SameBeforeEntry b) (hu : u.entered t r) :
    b.entered t r := by
  obtain ⟨hnow, hprogram, hweigh, hbudget, hthermal, hblade, hnotices, hcursor, hclock, hlevel, hheat, haux⟩ := h
  have hall := State.noticesAfterAll_congr hnotices hclock
  simp only [State.entered, hnow, hprogram, hweigh, hbudget, hthermal, hblade, hcursor, hclock, hlevel, hheat, hall]
    at hu ⊢
  rw [haux] at hu
  exact hu

/-- What an entry leaves of run and results (R22, R26). -/
theorem State.entered_place {s t : State} {r : StepRecord} (h : s.entered t r) :
    t.run.phase = .active ∧ t.run.cursor = s.run.cursor ∧ t.run.clock = s.run.clock ∧ t.run.active = 0 ∧
    t.run.met = [] ∧ t.run.causes = t.stepInterlocks.withAck ∧
    t.run.state = (if t.stepInterlocks.isEmpty then .running else .held) := by
  obtain ⟨-, hrun, -⟩ := h
  rw [hrun]
  refine ⟨rfl, rfl, rfl, rfl, rfl, ?_, ?_⟩
  · dsimp only
    by_cases hclear : t.stepInterlocks = {}
    · rw [if_neg (not_not_intro hclear), hclear]
      rfl
    · rw [if_pos hclear, CauseSet.withAck_of_interlocks rfl hclear]
  · simp [CauseSet.isEmpty]

theorem State.entered_outcome {s t : State} {r : StepRecord} (h : s.entered t r)
    (hcursor : s.run.cursor < s.program.results.length) : t.outcomeAt s.run.cursor = some (.active, none) := by
  obtain ⟨hprogram, -⟩ := h
  simp [State.outcomeAt, hprogram, hcursor, StepResult.entered, StepResult.cleared]

/-! ## START -/

/-- START up to the arrival at index 0 (R24, R79). -/
def State.begunRun (s : State) : State :=
  { s with
    program := { s.program with results := List.replicate 48 .cleared }
    log := { IngredientLog.cleared with isOpen := true }
    run := { s.run with state := .running, clock := 0, cursor := 0, phase := .beforeEntry, causes := {}, met := [] }
    aux := { s.aux with lamp := true } }

theorem State.startRun_eq (s : State) : s.startRun = s.begunRun.arrive := rfl

/-- An addition to the hold-cause set touches run state and set alone of the run. -/
theorem State.addCauses_rest (s : State) (c : CauseSet) : (s.addCauses c).run =
    { s.run with state := (s.addCauses c).run.state, causes := (s.addCauses c).run.causes } := by
  by_cases hin : s.run.state.inRun = true
  · by_cases h : s.run.causes.union c = s.run.causes
    · rw [State.addCauses_of_present h]
    · rw [State.addCauses_run hin h]
  · rw [State.addCauses_of_idle (by simpa using hin)]

theorem State.examineRun_rest (s : State) : s.examineRun.run =
    { s.run with state := s.examineRun.run.state, causes := s.examineRun.run.causes } := by
  by_cases hin : s.run.state.inRun = true
  · rw [State.examineRun_run hin]
  · rw [State.examineRun_of_idle (by simpa using hin)]

theorem State.atHoldPoint_eq (s : State) : s.atHoldPoint = s.marked s.run.cursor := rfl

theorem State.arrive_of_marked {s : State} (h : s.marked s.run.cursor = true) :
    s.arrive = s.addCauses { holdPoint := true } := if_pos h

theorem State.arrive_of_unmarked {s : State} (h : s.marked s.run.cursor = false) : s.arrive = s.enterStep := by
  rw [State.arrive, State.atHoldPoint_eq, h]
  rfl

/-- An arrival leaves cursor and run clock (R25). -/
theorem State.arrive_place (s : State) : s.arrive.run.cursor = s.run.cursor ∧ s.arrive.run.clock = s.run.clock ∧
    (s.run.met = [] → s.arrive.run.met = []) := by
  by_cases h : s.marked s.run.cursor = true
  · rw [State.arrive_of_marked h, State.addCauses_rest]
    simp
  · rw [State.arrive_of_unmarked (by simpa using h)]
    cases hr : s.record with
    | none => simp [State.enterStep, hr]
    | some r =>
      rw [State.enterStep_eq hr, State.examineRun_rest]
      simp

theorem CauseSet.empty_union (c : CauseSet) : CauseSet.union {} c = c := by simp [CauseSet.union]

/-- The hold-point cause holds a run that no cause holds (R25, R33). -/
theorem State.holdPoint_absent {s : State} (hcauses : s.run.causes = {}) :
    s.run.causes.union { holdPoint := true } ≠ s.run.causes := by
  rw [hcauses, CauseSet.empty_union]
  simp

/-- The arrival at a hold point in RUNNING (R25, R33, R35). -/
theorem State.arrive_held {s : State} (hmark : s.marked s.run.cursor = true) (hstate : s.run.state = .running)
    (hcauses : s.run.causes = {}) (hphase : s.run.phase = .beforeEntry) :
    s.arrive.run = { s.run with state := .held, causes := { holdPoint := true } } ∧
    s.arrive.notices = s.noticesAfter .held (some s.run.cursor) (some (.causes { holdPoint := true })) ∧
    s.arrive.program = s.program ∧ s.arrive.budget = s.budget ∧ s.arrive.blade.stir = .zero ∧
    s.arrive.thermal.setPoint = none ∧ s.arrive.KeptByHandover s := by
  have hin : s.run.state.inRun = true := by simp [hstate]
  have habsent := State.holdPoint_absent hcauses
  have hunion : s.run.causes.union { holdPoint := true } = { holdPoint := true } := by
    rw [hcauses, CauseSet.empty_union]
  obtain ⟨-, hstir, hpoint⟩ := State.addCauses_still hstate habsent
  have hnone : s.activeRecord = none := by simp [State.activeRecord, State.stepActive, hphase]
  rw [State.arrive_of_marked hmark, State.addCauses_run hin habsent, State.addCauses_notices hin habsent, hunion]
  exact ⟨rfl, rfl, by simp, by simp, hstir, by simp [hpoint, hnone], by simp⟩

/-- Settles O19: the refusals, then the arrival at index 0, held or entered. -/
theorem startBeginsARun : Obligations.StartBeginsARun := by
  intro p s hreach
  dsimp only
  rw [exec_of_reaches (i := .start p) rfl rfl hreach]
  generalize s.taken (.start p) = s1
  refine ⟨fun hready hdone => ?_, fun hstate => ⟨fun hlatch => ?_, fun hlatch hlength => ?_⟩⟩
  · simp only [startRule, if_neg (not_or.mpr ⟨hready, hdone⟩)]
    rfl
  · simp only [startRule, if_pos hstate, if_pos hlatch]
    rfl
  have hrule : startRule s1 = runReply s1.begunRun.arrive .ok := by
    simp only [startRule, if_pos hstate, hlatch, Bool.false_eq_true, if_false, State.startRun_eq]
  simp only [hrule, runReply]
  have hplace := s1.begunRun.arrive_place
  have hmarked : s1.begunRun.marked s1.begunRun.run.cursor = s1.marked 0 := rfl
  refine ⟨_, rfl, hplace.2.1, hplace.1, hplace.2.2 rfl, by simp [State.begunRun],
    Program.eq_with_results (by simp [State.begunRun]), by simp [State.begunRun],
    Weigh.eq_of_kept (by simp [State.begunRun]) rfl rfl, fun hmark => ?_, fun hmark => ?_, State.eq_of_blocks ?_⟩
  · obtain ⟨hrun, hnotices, hprogram, hbudget, hstir, hpoint, hkept⟩ :=
      State.arrive_held (s := s1.begunRun) (hmarked.trans hmark) rfl rfl rfl
    have hstart : s1.begunRun.KeptByHandover s1 := by simp [State.begunRun]
    refine ⟨congrArg Run.state hrun, congrArg Run.phase hrun, congrArg Run.causes hrun, congrArg Program.results hprogram,
      hnotices, hbudget, hstir, hpoint, State.handoverFrame_of_kept ?_⟩
    exact hkept
  · obtain ⟨r, hr⟩ : ∃ r, s1.program.steps[0]? = some r := ⟨_, List.getElem?_eq_getElem hlength⟩
    have hentered := State.enterStep_entered (s := s1.begunRun) (r := r) hr rfl rfl rfl
    rw [← State.arrive_of_unmarked (hmarked.trans hmark)] at hentered
    obtain ⟨hphase, -, -, hactive, -, hcauses, hstate⟩ := State.entered_place hentered
    refine ⟨fun r' hr' => ?_, hphase, hactive, hstate, hcauses, congrArg Program.results hentered.1⟩
    obtain rfl : r = r' := Option.some.inj (hr.symm.trans hr')
    exact State.entered_congr (u := s1.begunRun) ⟨rfl, rfl, rfl, rfl, rfl, rfl, rfl, rfl, rfl, rfl, rfl, rfl⟩ hentered
  · simp [State.begunRun]

end Sys2Proof.Machine
end

section
/-! SUPPORT. The end of a step and what follows it: the end decision, the exit, RESUME, SKIP and CONFIRM (R27, R30, R31,
R37 to R40). -/

namespace Sys2Proof.Machine

/-! ## Outcomes along an exit -/

theorem State.outcomeAt_editResult_elsewhere {s : State} {i : Nat} (h : i ≠ s.run.cursor)
    (f : StepResult → StepResult) : (s.editResult f).outcomeAt i = s.outcomeAt i := by
  simp [State.outcomeAt, Program.editResult_elsewhere h]

/-- An edit of other fields leaves every outcome. -/
theorem State.outcomeAt_editResult_of_same {s : State} {f : StepResult → StepResult}
    (hf : ∀ r, (f r).outcome = r.outcome ∧ (f r).reason = r.reason) : (s.editResult f).outcomeAt = s.outcomeAt := by
  funext i
  by_cases hi : i = s.run.cursor
  · subst hi
    by_cases hcursor : s.run.cursor < s.program.results.length
    · obtain ⟨houtcome, hreason⟩ := hf (s.program.results.getD s.run.cursor .cleared)
      rw [State.outcomeAt_editResult hcursor, houtcome, hreason]
      simp [State.outcomeAt, hcursor]
    · simp [State.outcomeAt, Program.editResult, Nat.le_of_not_lt hcursor]
  · exact State.outcomeAt_editResult_elsewhere hi f

theorem State.checkOvershoot_outcomeAt (s : State) : s.checkOvershoot.outcomeAt = s.outcomeAt := by
  unfold State.checkOvershoot
  split
  · split_ifs
    · exact State.outcomeAt_editResult_of_same fun _ => ⟨rfl, rfl⟩
    · rfl
  · rfl

theorem State.enterStep_outcomeAt {s : State} {i : Nat} (h : i ≠ s.run.cursor) :
    s.enterStep.outcomeAt i = s.outcomeAt i := by
  cases hr : s.record with
  | none => simp [State.enterStep, hr]
  | some r =>
    rw [State.enterStep_eq hr]
    simp [State.outcomeAt, Program.editResult_elsewhere h]

theorem State.arrive_outcomeAt {s : State} {i : Nat} (h : i ≠ s.run.cursor) : s.arrive.outcomeAt i = s.outcomeAt i := by
  by_cases hmark : s.marked s.run.cursor = true
  · rw [State.arrive_of_marked hmark, State.outcomeAt_congr (s := s) (by simp)]
  · rw [State.arrive_of_unmarked (by simpa using hmark), State.enterStep_outcomeAt h]

theorem State.proceed_outcomeAt {s : State} {i : Nat} (h : i ≠ s.run.cursor) : s.proceed.outcomeAt i = s.outcomeAt i := by
  unfold State.proceed
  split_ifs
  · rw [State.outcomeAt_congr (s := s) (by simp)]
  · exact State.arrive_outcomeAt h

theorem State.proceed_cursor (s : State) : s.proceed.run.cursor = s.run.cursor := by
  unfold State.proceed
  split_ifs
  · simp
  · exact s.arrive_place.1

theorem State.advance_cursor (s : State) : s.advance.run.cursor = s.run.cursor + 1 := by
  simp [State.advance, State.examineRun_cursor]

/-- The cursor rises past a step, and its outcome stays. -/
theorem State.advance_proceed_place (s : State) : s.advance.proceed.run.cursor = s.run.cursor + 1 ∧
    s.advance.proceed.outcomeAt s.run.cursor = s.outcomeAt s.run.cursor := by
  refine ⟨by rw [State.proceed_cursor, State.advance_cursor], ?_⟩
  rw [State.proceed_outcomeAt (by rw [State.advance_cursor]; omega), State.outcomeAt_congr (s := s) (by simp)]

/-- A completed exit: the outcome at the cursor, and the cursor raised (R31). -/
theorem State.exitStep_place {s : State} (reason : EndReason) (hcursor : s.run.cursor < s.program.results.length) :
    (s.exitStep reason).outcomeAt s.run.cursor = some (.completed, some reason) ∧
    (s.exitStep reason).run.cursor = s.run.cursor + 1 := by
  have hclosed := State.outcomeAt_closeResult hcursor .completed (some reason)
  rw [← State.checkOvershoot_outcomeAt] at hclosed
  have hclosedrun : (s.closeResult .completed (some reason)).checkOvershoot.run = s.run := by simp
  unfold State.exitStep
  dsimp only
  generalize (s.closeResult .completed (some reason)).checkOvershoot = u at hclosed hclosedrun ⊢
  obtain ⟨hnext, houtcome⟩ := (u.send .stepEnd (some u.run.cursor) none).advance_proceed_place
  rw [State.send_run, hclosedrun] at hnext houtcome
  exact ⟨by rw [hclosedrun]; exact houtcome.trans hclosed, by rw [hclosedrun]; exact hnext⟩

/-! ## The end decision -/

theorem State.decideEnd_of_ends {s : State} {r : StepRecord} {reason : EndReason} (hstate : s.run.state = .running)
    (hphase : s.run.phase = .active) (hr : s.record = some r) (hends : r.ends s.run.met = some reason) :
    s.decideEnd = s.exitStep reason := by
  simp [State.decideEnd, hstate, hphase, hr, hends]

theorem State.decideEnd_of_continues {s : State} {r : StepRecord} (hr : s.record = some r)
    (hends : r.ends s.run.met = none) : s.decideEnd = s := by
  simp [State.decideEnd, hr, hends]

theorem State.decideEnd_of_held {s : State} (hstate : s.run.state ≠ .running) : s.decideEnd = s := by
  simp [State.decideEnd, hstate]

/-! ## RESUME -/

/-- RESUME up to the entry or the restoration (R37). -/
def State.resumed (s : State) : State :=
  { s with
    run := { s.run with state := .running, causes := {}, countRose := false }
    aux := { s.aux with lamp := true } }

@[simp] theorem State.resumed_run (s : State) :
    s.resumed.run = { s.run with state := .running, causes := {}, countRose := false } := rfl

@[simp] theorem State.resumed_program (s : State) : s.resumed.program = s.program := rfl

theorem State.resumeRun_eq (s : State) : s.resumeRun =
    if s.run.phase = .active then s.resumed.restoreStep.decideEnd else s.resumed.enterStep := rfl

/-- What the restoration of an ACTIVE step leaves (R37). -/
theorem State.restoreStep_resumed {s : State} {r : StepRecord} (hr : s.record = some r) (hphase : s.run.phase = .active) :
    s.resumed.restoreStep.run = { s.run with state := .running, causes := {}, countRose := false } ∧
    s.resumed.restoreStep.blade.stir = r.stirPoint ∧
    s.resumed.restoreStep.thermal.setPoint = (r.heat.map fun h => ⟨h.target, h.cap, h.band⟩) ∧
    s.resumed.restoreStep.program = s.program ∧ s.resumed.restoreStep.notices = s.notices ∧
    s.resumed.restoreStep.log = s.log ∧ s.resumed.restoreStep.budget = s.budget ∧
    s.resumed.restoreStep.KeptByHandover s := by
  have hrecord : s.resumed.record = some r := hr
  have hactive : s.resumed.activeRecord = some r := by
    simp [State.activeRecord, State.stepActive, State.resumed, hphase]
    exact hr
  have hrestore : s.resumed.restoreStep = s.resumed.handHeat.handStir r.stirPoint := by
    simp [State.restoreStep, hrecord]
  rw [hrestore]
  refine ⟨by simp [State.resumed], by simp, ?_, by simp [State.resumed], by simp [State.resumed], by simp [State.resumed],
    by simp [State.resumed], by simp [State.resumed]⟩
  simp [State.heatPoint, hactive]

/-- Settles O20: the refusals, then the entry, the restoration, or the exit. -/
theorem resumeReleasesTheRun : Obligations.ResumeReleasesTheRun := by
  intro p s r hreach
  dsimp only
  rw [exec_of_reaches (i := .resume p) rfl rfl hreach]
  generalize s.taken (.resume p) = s1
  refine ⟨fun hstate => ?_, fun hheld hinterlock => ?_, fun hheld hinterlock hr hcursor => ?_⟩
  · simp only [resumeRule, if_neg hstate]
    rfl
  · simp only [resumeRule, if_pos hheld, if_pos hinterlock]
    rfl
  have hrule : resumeRule s1 = runReply s1.resumeRun .ok := by
    simp only [resumeRule, if_pos hheld, hinterlock, Bool.false_eq_true, if_false]
  simp only [hrule, runReply]
  refine ⟨_, rfl, by simp, by simp, by simp, by simp, by simp, fun hphase => ?_, fun hphase hends => ?_,
    fun hphase reason hends => ?_⟩
  · have henter : s1.resumeRun = s1.resumed.enterStep := by simp [State.resumeRun_eq, hphase]
    have hentered := State.enterStep_entered (s := s1.resumed) hr rfl rfl rfl
    rw [← henter] at hentered
    obtain ⟨hactive, hplace, -, hcount, hmet, hcauses, hstate⟩ := State.entered_place hentered
    exact ⟨State.entered_congr (u := s1.resumed) ⟨rfl, rfl, rfl, rfl, rfl, rfl, rfl, rfl, rfl, rfl, rfl, rfl⟩ hentered,
      by simp [henter, State.resumed], hactive, hplace, hcount, hmet, State.entered_outcome (s := s1.resumed) hentered hcursor, hcauses,
      hstate⟩
  · obtain ⟨hrun, hstir, hpoint, hprogram, hnotices, hlog, hbudget, hkept⟩ := State.restoreStep_resumed hr hphase
    have hrestore : s1.resumeRun = s1.resumed.restoreStep := by
      rw [State.resumeRun_eq, if_pos hphase]
      refine State.decideEnd_of_continues (r := r) ?_ ?_
      · simpa [State.record] using hr
      · simpa using hends
    rw [← hrestore] at hrun hstir hpoint hprogram hnotices hlog hbudget hkept
    exact ⟨hrun, hstir, hpoint, hprogram, hnotices, hlog, hbudget, State.handoverFrame_of_kept hkept⟩
  · obtain ⟨hrun, -, -, hprogram, -⟩ := State.restoreStep_resumed hr hphase
    have hexit : s1.resumeRun = s1.resumed.restoreStep.exitStep reason := by
      rw [State.resumeRun_eq, if_pos hphase]
      refine State.decideEnd_of_ends (r := r) (by simp) (by simp [hphase]) ?_ (by simpa using hends)
      simpa [State.record] using hr
    obtain ⟨houtcome, hnext⟩ := State.exitStep_place (s := s1.resumed.restoreStep) reason (by simpa [hrun, hprogram])
    rw [← hexit, hrun] at houtcome hnext
    exact ⟨houtcome, hnext⟩

/-! ## SKIP -/

theorem State.skipResult_outcome {s : State} (hcursor : s.run.cursor < s.program.results.length) :
    (s.skipResult.outcomeAt s.run.cursor).map Prod.fst = some .skipped ∧
    (s.run.phase = .active → s.skipResult.outcomeAt s.run.cursor = some (.skipped, none)) := by
  unfold State.skipResult
  by_cases hphase : s.run.phase = .active
  · have h : ((s.closeResult .skipped none).send .stepEnd (some s.run.cursor) none).outcomeAt s.run.cursor =
        some (.skipped, none) := State.outcomeAt_closeResult hcursor _ _
    rw [if_pos hphase, h]
    exact ⟨rfl, fun _ => rfl⟩
  · rw [if_neg hphase, State.outcomeAt_editResult hcursor]
    exact ⟨rfl, fun h => absurd h hphase⟩

/-- What DONE leaves (R31, R80). -/
theorem State.finishRun_still (s : State) : s.finishRun.run.state = .done ∧ s.finishRun.run.causes = {} ∧
    s.finishRun.log = { s.log with isOpen := false } ∧ s.finishRun.blade.commanded = 0 ∧
    s.finishRun.thermal.setPoint = none := by
  refine ⟨by simp, by simp, by simp, ?_, ?_⟩
  · exact State.handIdle_commanded _
  · refine (State.handIdle_setPoint _).trans (State.heatPoint_of_not_halts ?_)
    simp [RunState.halts]

/-- An entry makes the step ACTIVE, and its result (R11, R22). -/
theorem State.enterStep_active {s : State} {r : StepRecord} (hr : s.record = some r)
    (hcursor : s.run.cursor < s.program.results.length) :
    s.enterStep.run.phase = .active ∧ s.enterStep.outcomeAt s.run.cursor = some (.active, none) := by
  rw [State.enterStep_eq hr, State.examineRun_rest]
  refine ⟨by simp, ?_⟩
  simp [State.outcomeAt, Program.editResult_at hcursor, StepResult.entered, StepResult.cleared]

theorem State.atEnd_eq {s : State} : s.atEnd = true ↔ s.program.length ≤ s.run.cursor := by
  simp [State.atEnd]

/-- A SKIP in RUNNING, and one in HELD (R38, R39). -/
theorem State.skipStep_eq (s : State) : s.skipStep =
    if s.run.state = .held then
      (if s.skipResult.advance.atEnd then s.skipResult.advance.finishRun else s.skipResult.advance.holdNext)
    else s.skipResult.advance.proceed := rfl

/-- The part after the cursor has risen past a skipped step. -/
theorem State.skipped_run {s : State} (hin : s.run.state.inRun = true) : s.skipResult.advance.run = { s.run with
    cursor := s.run.cursor + 1, phase := .beforeEntry, met := [], reached := none, countRose := false
    active := if s.program.length ≤ s.run.cursor + 1 then s.run.active else 0
    causes := s.run.causes.others } := by
  have hlength : s.skipResult.program.length = s.program.length := by simp [Program.length]
  rw [State.advance_run (by simpa using hin)]
  simp only [State.skipResult_frame, hlength]

theorem State.skipStep_place {s : State} (hin : s.run.state.inRun = true) :
    s.skipStep.run.cursor = s.run.cursor + 1 ∧
    s.skipStep.outcomeAt s.run.cursor = s.skipResult.outcomeAt s.run.cursor := by
  have hrun := State.skipped_run hin
  have hkept : s.skipResult.advance.outcomeAt = s.skipResult.outcomeAt := State.outcomeAt_congr (by simp)
  rw [State.skipStep_eq, ← hkept]
  split_ifs with hheld hend
  · exact ⟨by simp [hrun], congrFun (State.outcomeAt_congr (by simp)) _⟩
  · exact ⟨by simp [State.holdNext_run (s := s.skipResult.advance) (by simp [hrun, hheld]), hrun],
      congrFun (State.outcomeAt_congr (by simp)) _⟩
  · obtain ⟨hcursor, houtcome⟩ := s.skipResult.advance_proceed_place
    simp only [State.skipResult_frame] at hcursor houtcome
    exact ⟨hcursor, houtcome.trans (congrFun hkept _).symm⟩

/-- Past the last step a SKIP ends the run (R38, R39). -/
theorem State.skipStep_of_last {s : State} (hin : s.run.state.inRun = true)
    (hlast : s.program.length ≤ s.run.cursor + 1) : s.skipStep = s.skipResult.advance.finishRun := by
  have hend : s.skipResult.advance.atEnd = true := by
    rw [State.atEnd_eq, State.skipped_run hin]
    simpa [Program.length] using hlast
  simp only [State.skipStep_eq, State.proceed, if_pos hend, ite_self]

/-- Settles O21: the outcome and the cursor, then DONE, the hold at the next index, or the arrival there. -/
theorem skipPassesTheStep : Obligations.SkipPassesTheStep := by
  intro p s hreach
  dsimp only
  rw [exec_of_reaches (i := .skip p) rfl rfl hreach]
  generalize s.taken (.skip p) = s1
  refine ⟨fun hin => by simp only [skipRule, hin]; rfl, fun hin hcursor => ?_⟩
  obtain ⟨hskipped, hactive⟩ := State.skipResult_outcome hcursor
  obtain ⟨hnext, houtcome⟩ := State.skipStep_place hin
  have hrun := State.skipped_run hin
  rw [← houtcome] at hskipped hactive
  simp only [skipRule, if_pos hin, runReply]
  refine ⟨_, rfl, by simp, hnext, hskipped, hactive, by simp, by simp, by simp, by simp, by simp, fun hlast => ?_,
    fun hbelow hheld => ?_, fun hbelow hrunning hcauses hresults => ?_⟩
  · obtain ⟨hstate, hcauses, hlog, hcommanded, hpoint⟩ := s1.skipResult.advance.finishRun_still
    rw [← State.skipStep_of_last hin hlast] at hstate hcauses hlog hcommanded hpoint
    exact ⟨hstate, hcauses, by simpa using hlog, hcommanded, hpoint⟩
  · have hend : ¬ s1.skipResult.advance.atEnd = true := by
      rw [State.atEnd_eq, hrun]
      simpa [Program.length] using hbelow
    have hskip : s1.skipStep = s1.skipResult.advance.holdNext := by
      rw [State.skipStep_eq, if_pos hheld, if_neg hend]
    simp [hskip, State.holdNext_run (s := s1.skipResult.advance) (by simp [hrun, hheld]), hrun, CauseSet.others,
      Nat.not_le.mpr hbelow]
  · have hend : ¬ s1.skipResult.advance.atEnd = true := by
      rw [State.atEnd_eq, hrun]
      simpa [Program.length] using hbelow
    have hskip : s1.skipStep = s1.skipResult.advance.arrive := by
      rw [State.skipStep_eq, if_neg (by simp [hrunning]), State.proceed, if_neg hend]
    have hmarked : s1.skipResult.advance.marked s1.skipResult.advance.run.cursor = s1.marked (s1.run.cursor + 1) := by
      simp [State.marked, hrun]
    rw [hskip, ← hmarked]
    split_ifs with hmark
    · obtain ⟨hheld, -⟩ := State.arrive_held hmark (by simp [hrun, hrunning]) (by simp [hrun, hcauses, CauseSet.others])
        (by simp [hrun])
      exact ⟨congrArg Run.state hheld, (congrArg Run.phase hheld).trans (by rw [hrun]), congrArg Run.causes hheld⟩
    · have hmark : s1.skipResult.advance.marked s1.skipResult.advance.run.cursor = false := by simpa using hmark
      have hr : s1.skipResult.advance.record = some s1.program.steps[s1.run.cursor + 1] := by
        simp only [State.record, hrun]
        simpa using List.getElem?_eq_getElem hbelow
      obtain ⟨hphase, hentered⟩ := State.enterStep_active hr (by rw [hrun]; simpa using hresults)
      rw [← State.arrive_of_unmarked hmark] at hphase hentered
      rw [hrun] at hentered
      exact ⟨hphase, hentered⟩

/-! ## CONFIRM -/

theorem StepRecord.conditions_all {r : StepRecord} {met : List Condition} :
    (r.conditions.all fun c => decide (c ∈ met)) = true ↔
      (r.heat.isSome = true → .tempReached ∈ met) ∧ (r.weigh.isSome = true → .weightMet ∈ met) ∧
      (r.time.isSome = true → .timeDone ∈ met) ∧ (r.prompt.isSome = true → .confirmed ∈ met) := by
  simp only [StepRecord.conditions, List.all_append, Bool.and_eq_true, and_assoc]
  split_ifs <;> simp_all

theorem StepRecord.mem_conditions_confirmed {r : StepRecord} :
    .confirmed ∈ r.conditions ↔ r.prompt.isSome = true := by
  simp only [StepRecord.conditions]
  split_ifs <;> simp_all

/-- A condition of a part that is present latches once (R27). -/
theorem State.latch_of_new {s : State} {c : Condition} {r : StepRecord} (hr : s.activeRecord = some r)
    (hc : c ∈ r.conditions) (hnew : c ∉ s.run.met) : s.latch c = State.decideEnd { s with run := { s.run with
      met := s.run.met ++ [c], reached := if c = .tempReached then some s.run.active else s.run.reached } } := by
  rw [State.latch, if_pos (by simp [hr, hc, hnew])]

theorem State.latch_of_met {s : State} {c : Condition} (h : c ∈ s.run.met) : s.latch c = s := by
  rw [State.latch, if_neg (by simp [h])]

/-- Settles O18: the end decision by end mode, then CONFIRM by its checks and by what the end decision says. -/
theorem confirmLatchesConfirmed : Obligations.ConfirmLatchesConfirmed := by
  refine ⟨fun r met => ?_, fun p step s hreach => ?_⟩
  · dsimp only
    rw [← StepRecord.conditions_all]
    refine ⟨fun hany => ?_, fun hall hcomplete => ?_, fun hall hcomplete => ?_⟩
    · simp only [StepRecord.ends, hany]
      rfl
    · simp only [StepRecord.ends, hall, if_pos hcomplete]
      rfl
    · simp only [StepRecord.ends, hall, if_neg hcomplete]
  dsimp only
  rw [exec_of_reaches (i := .confirm p step) rfl rfl hreach]
  generalize s.taken (.confirm p step) = s1
  have hchecks : (s1.run.state.inRun && decide (step.toNat = s1.run.cursor) && decide (s1.run.phase = .active)) = true ↔
      s1.run.state.inRun = true ∧ step.toNat = s1.run.cursor ∧ s1.run.phase = .active := by
    simp [and_assoc]
  refine ⟨fun hnot => ?_, fun r hr hin hstep hphase => ⟨fun hnone => ?_, fun hprompt => ⟨fun hstays => ?_, ?_⟩⟩⟩
  · simp only [confirmRule, if_neg (mt hchecks.mp hnot)]
    rfl
  · simp only [confirmRule, if_pos (hchecks.mpr ⟨hin, hstep, hphase⟩), hr, hnone, Option.any_some, Option.isSome_none,
      Bool.false_eq_true, if_false]
    rfl
  all_goals
    have hactive : s1.activeRecord = some r := by simp [State.activeRecord, State.stepActive, hin, hphase, hr]
    have hrule : confirmRule step s1 =
        (s1.latch .confirmed, ⟨.ok, u8 (s1.latch .confirmed).run.cursor ++ metBytes (s1.latch .confirmed).run.met⟩) := by
      simp only [confirmRule, if_pos (hchecks.mpr ⟨hin, hstep, hphase⟩), hr, Option.any_some, hprompt, if_true]
    rw [hrule]
  · by_cases hmet : .confirmed ∈ s1.run.met
    · rw [State.latch_of_met hmet, if_pos hmet]
    · rw [State.latch_of_new hactive (StepRecord.mem_conditions_confirmed.mpr hprompt) hmet, if_neg hmet]
      have hstill : State.decideEnd { s1 with run := { s1.run with
            met := s1.run.met ++ [.confirmed]
            reached := if Condition.confirmed = .tempReached then some s1.run.active else s1.run.reached } } =
          { s1 with run := { s1.run with met := s1.run.met ++ [.confirmed] } } := by
        rcases hstays with hheld | hin' | hends
        · exact State.decideEnd_of_held (by simp [hheld])
        · exact absurd hin' hmet
        · exact State.decideEnd_of_continues (r := r) hr hends
      rw [hstill]
  · intro reason hrunning hmet hends hcursor
    have hexit : s1.latch .confirmed = State.exitStep { s1 with run := { s1.run with
        met := s1.run.met ++ [.confirmed] } } reason := by
      rw [State.latch_of_new hactive (StepRecord.mem_conditions_confirmed.mpr hprompt) hmet]
      exact State.decideEnd_of_ends (r := r) hrunning hphase hr hends
    obtain ⟨houtcome, hnext⟩ := State.exitStep_place (s := { s1 with run := { s1.run with
      met := s1.run.met ++ [.confirmed] } }) reason hcursor
    rw [← hexit] at houtcome hnext
    exact ⟨_, rfl, houtcome, hnext, by simp, by simp, by simp, by simp, by simp, by simp⟩

end Sys2Proof.Machine
end

section
/-! SUPPORT. The safety block's commands and events: what the loss of heat and motion enable leaves, the entries into
HALTED and FAULTED, the stop latch, the safety limit and the lapse (R43, R45, R110, R115, R121, R127, R154 to R157, R163,
R164). -/

namespace Sys2Proof.Machine

/-! ## Frames of the blade drive -/

theorem Blade.eq_of_following {b c : Blade} (h : c.KeptFollowing b) : c = { b with
    commanded := c.commanded, ramp := c.ramp, settle := c.settle, stallTimer := c.stallTimer } := by
  obtain ⟨⟩ := c
  simp_all

theorem Weigh.eq_of_kind {v w : Weigh} (h : w.KeptButKind v) : w = { v with kind := w.kind } := by
  obtain ⟨⟩ := w
  simp_all

theorem Aux.eq_of_lock {a b : Aux} (h : b.KeptButLock a) :
    b = { a with lockEngaged := b.lockEngaged, lockedAt := b.lockedAt } := by
  obtain ⟨⟩ := b
  simp_all

/-- The update of the blade touches commanded level, timers, kind and lid lock (R121, R123, R131, R193). -/
theorem State.updateBlade_eq (s : State) : s.updateBlade = { s with
    blade := { s.blade with
      commanded := s.updateBlade.blade.commanded, ramp := s.updateBlade.blade.ramp
      settle := s.updateBlade.blade.settle, stallTimer := s.updateBlade.blade.stallTimer }
    weigh := { s.weigh with kind := s.updateBlade.weigh.kind }
    aux := { s.aux with lockEngaged := s.updateBlade.aux.lockEngaged, lockedAt := s.updateBlade.aux.lockedAt } } := by
  exact State.eq_of_blocks ⟨by simp, by simp, by simp, Weigh.eq_of_kind (by simp), by simp, by simp,
    Blade.eq_of_following (by simp), by simp, by simp, by simp, by simp, by simp, Aux.eq_of_lock (by simp), by simp⟩

/-- A cut of the grant, with the vent fan's run-out where it was on (R115, R117). -/
theorem State.cutGrant_eq (s : State) : s.cutGrant = { s with thermal := { s.thermal with
    grant := 0, gate := false
    vent := if s.thermal.vent = .on then .runout (s.now + 90000000) else s.thermal.vent } } := by
  have hfan : Thermal.fanCondition { s.thermal with grant := 0, gate := false } = false := by
    simp [Thermal.fanCondition]
  unfold State.cutGrant State.updateVent
  simp only [hfan]
  cases s.thermal.vent <;> rfl

/-! ## The loss of heat and motion enable -/

theorem State.gates_thermal (r s : State) : (r.gates s).thermal =
    if r.heatEnabled && !s.heatEnabled then s.cutGrant.thermal else s.thermal := by
  unfold State.gates
  dsimp only
  split_ifs <;> simp

@[simp] theorem State.gates_commanded (r s : State) : (r.gates s).blade.commanded = (r.gates s).commandedLevel := by
  simp [State.gates]

theorem State.gates_motionEnabled (r s : State) : (r.gates s).motionEnabled = s.motionEnabled := by
  simp [State.motionEnabled, State.leaseLive, State.mainsLost]

theorem State.gates_heatEnabled (r s : State) : (r.gates s).heatEnabled = s.heatEnabled := by
  simp [State.heatEnabled, State.leaseLive, State.mainsLost]

/-- Without motion enable the gates leave no commanded level (R121). -/
theorem State.gates_still {r s : State} (h : s.motionEnabled = false) : (r.gates s).blade.commanded = 0 := by
  rw [State.gates_commanded]
  exact State.commandedLevel_of_not_enabled ((State.gates_motionEnabled r s).trans h)

/-- The loss of motion enable brakes the blade (R127). -/
theorem State.gates_effective {r s : State} (hr : r.motionEnabled = true) (h : s.motionEnabled = false) :
    (r.gates s).blade.effective = 0 := by
  have hcut : s.cutGrant.motionEnabled = s.motionEnabled := by
    simp [State.motionEnabled, State.leaseLive, State.mainsLost]
  unfold State.gates
  dsimp only
  split_ifs <;> simp_all

/-- The loss of heat enable cuts the grant of a guarded heater (R115). -/
theorem State.gates_cut {r s : State} (hguarded : r.HeaterGuarded) (hgrant : s.thermal.grant = r.thermal.grant)
    (hgate : s.thermal.gate = r.thermal.gate) (h : s.heatEnabled = false) :
    (r.gates s).thermal.grant = 0 ∧ (r.gates s).thermal.gate = false := by
  obtain ⟨hfires, henabled⟩ := hguarded
  rw [State.gates_thermal]
  by_cases hr : r.heatEnabled = true
  · simp [hr, h]
  · have hzero : r.thermal.grant = 0 := by
      by_contra hpos
      exact hr (henabled (Nat.pos_of_ne_zero hpos))
    have hdark : r.thermal.gate = false := by
      by_contra hlit
      have := hfires (by simpa using hlit)
      omega
    simp [hr, hgrant, hgate, hzero, hdark]

/-- What the gates leave where heat and motion enable are lost, as the statements write it. -/
theorem State.gates_enablesLost {r s : State} (hgrant : s.thermal.grant = r.thermal.grant)
    (hgate : s.thermal.gate = r.thermal.gate) (hheat : s.heatEnabled = false) (hmotion : s.motionEnabled = false) :
    r.enablesLost (r.gates s) :=
  ⟨State.gates_still hmotion, fun hr => State.gates_effective hr hmotion,
    fun hguarded => State.gates_cut hguarded hgrant hgate hheat⟩

/-! ## HALTED and FAULTED -/

/-- The entries into HALTED and FAULTED leave no heat and no motion (R43, R45). -/
theorem State.stopAll_still (s : State) {r : RunState} (hr : r.halts = false) :
    (s.stopAll r).blade.commanded = 0 ∧ (s.stopAll r).blade.effective = 0 ∧ (s.stopAll r).thermal.grant = 0 ∧
    (s.stopAll r).thermal.gate = false := by
  have hdrives : r.drives = false := by cases r <;> simp_all [RunState.halts, RunState.drives]
  have hfollows : (s.stopAll r).OutputsFollow := State.outputsFollow_brake
    (State.outputsFollow_handHeat (State.updateBlade_follows _))
  obtain ⟨-, hgrant, hgate⟩ := State.handIdle_cut (s := (((((s.setCauses {}).setPhase .beforeEntry).clearManual).setRunState
    r).closeLog)) (by simpa using hr)
  refine ⟨hfollows.2.1.trans (State.commandedLevel_of_not_drives (by simpa using hdrives)), State.brake_effective _, ?_, ?_⟩
  · simpa [State.stopAll] using hgrant
  · simpa [State.stopAll] using hgate

theorem State.enterHalted_enablesLost (s u : State) : u.enablesLost s.enterHalted := by
  obtain ⟨hcommanded, heffective, hcut⟩ := s.stopAll_still (r := .halted) rfl
  exact ⟨hcommanded, fun _ => heffective, fun _ => hcut⟩

theorem State.enterFaulted_enablesLost (s u : State) : u.enablesLost s.enterFaulted := by
  obtain ⟨hcommanded, heffective, hcut⟩ := s.stopAll_still (r := .faulted) rfl
  exact ⟨hcommanded, fun _ => heffective, fun _ => hcut⟩

theorem State.runIndex_congr {s t : State} (h : t.run = s.run) : t.runIndex = s.runIndex := by
  rw [State.runIndex, State.runIndex, h]

theorem State.enterHalted_stopsInto {s u : State} (hrun : s.run = u.run) (hlog : s.log = u.log)
    (hnotices : s.notices = u.notices) : u.stopsInto s.enterHalted .halted .halted := by
  refine ⟨by simp [State.enterHalted, hrun], by simp [State.enterHalted, hlog], ?_⟩
  have hclock : (s.stopAll .halted).run.clock = u.run.clock := by simp [hrun]
  rw [State.enterHalted, State.send_notices, State.runIndex_congr hrun,
    State.noticesAfter_congr (s := u) (by simp [hnotices]) hclock]

theorem State.enterFaulted_stopsInto {s u : State} (hrun : s.run = u.run) (hlog : s.log = u.log)
    (hnotices : s.notices = u.notices) : u.stopsInto s.enterFaulted .faulted .fault := by
  refine ⟨by simp [State.enterFaulted, hrun], by simp [State.enterFaulted, hlog], ?_⟩
  have hclock : (s.stopAll .faulted).run.clock = u.run.clock := by simp [hrun]
  rw [State.enterFaulted, State.send_notices, State.runIndex_congr hrun,
    State.noticesAfter_congr (s := u) (by simp [hnotices]) hclock]

theorem RunState.halts_iff_states {r : RunState} : r.halts = true ↔ r = .running ∨ r = .held ∨ r = .manual := by
  cases r <;> simp [RunState.halts]

/-! ## The stop latch -/

theorem State.heatEnabled_of_latch {s : State} (h : s.safety.stopLatch = true) : s.heatEnabled = false := by
  simp [State.heatEnabled, h]

theorem State.motionEnabled_of_latch {s : State} (h : s.safety.stopLatch = true) : s.motionEnabled = false := by
  simp [State.motionEnabled, h]

/-- The stop latch becomes set from CLEAR (R154). -/
theorem State.setStopLatch_from_clear {s : State} (h : s.safety.stopLatch = false) :
    s.enablesLost s.setStopLatch ∧
    (if s.run.state = .running ∨ s.run.state = .held ∨ s.run.state = .manual then
      s.stopsInto s.setStopLatch .halted .halted else s.runKept s.setStopLatch) := by
  have hlost := State.gates_enablesLost (r := s) (s := { s with safety := { s.safety with stopLatch := true } }) rfl rfl
    (State.heatEnabled_of_latch rfl) (State.motionEnabled_of_latch rfl)
  have hset : s.setStopLatch = if s.run.state.halts then
      (s.gates { s with safety := { s.safety with stopLatch := true } }).enterHalted
    else s.gates { s with safety := { s.safety with stopLatch := true } } := by
    simp [State.setStopLatch, h]
  rw [hset]
  simp only [← RunState.halts_iff_states]
  by_cases hhalts : s.run.state.halts = true
  · simp only [if_pos hhalts]
    exact ⟨State.enterHalted_enablesLost _ _, State.enterHalted_stopsInto (by simp) (by simp) (by simp)⟩
  · simp only [if_neg hhalts]
    exact ⟨hlost, by simp, by simp, by simp⟩

theorem State.setStopLatch_of_set {s : State} (h : s.safety.stopLatch = true) : s.setStopLatch = s := by
  simp [State.setStopLatch, h]

theorem State.after_eq (s : State) (dt : Nat) : s.after dt = { s with now := s.now + 3 * dt } := rfl

/-- The keys of the lease are nothing to heat, motion and the run. -/
theorem clearsKey_eq (rule : State → Executed) (s : State) : clearsKey rule s =
    ({ (rule s).1 with safety := { (rule s).1.safety with keySequence := false } }, (rule s).2) := rfl

/-- Settles O41: the latch from CLEAR and the latch already set, by STOP_N and by the command. -/
theorem stopLatchHaltsThePart : Obligations.StopLatchHaltsThePart := by
  refine ⟨fun dt s => ?_, fun dt s => by simp [exec, execStopNReleased, State.after_eq], fun p s hreach => ?_⟩
  · simp only [exec, execStopNAsserted, State.after_eq]
    refine ⟨fun hset => congrArg Host.Outcome.next (State.setStopLatch_of_set hset), fun hclear => ?_⟩
    obtain ⟨hlost, hrun⟩ := State.setStopLatch_from_clear (s := { s with
      now := s.now + 3 * dt, safety := { s.safety with stopN := true } }) hclear
    exact ⟨_, rfl, by simp, hlost, State.handoverFrame_of_kept (by simp), hrun, State.eq_of_blocks (by simp)⟩
  · dsimp only
    rw [exec_of_reaches (i := .safetyStop p) rfl rfl hreach]
    generalize s.taken (.safetyStop p) = s1
    simp only [clearsKey_eq, safetyStopRule]
    refine ⟨fun hset => ?_, fun hclear => ?_⟩
    · simp only [State.setStopLatch_of_set hset, State.latchData, hset]
      rfl
    · obtain ⟨hlost, hrun⟩ := State.setStopLatch_from_clear hclear
      refine ⟨_, rfl, by simp, hlost, State.handoverFrame_of_kept (by simp), hrun, by simp [State.latchData, flag],
        State.eq_of_blocks (by simp)⟩

/-! ## SAFETY CLEAR and SAFETY LIMIT -/

theorem RunState.drives_eq_false {r : RunState} (hrunning : r ≠ .running) (hmanual : r ≠ .manual) :
    r.drives = false := by
  cases r <;> simp_all [RunState.drives]

/-- Settles O42: the latch cleared with the blade following, and the limit with the cut it makes. -/
theorem latchIsClearedAndLimitIsSet : Obligations.LatchIsClearedAndLimitIsSet := by
  refine ⟨fun p s hreach => ?_, fun p watts s hreach => ?_⟩
  · dsimp only
    rw [exec_of_reaches (i := .safetyClear p) rfl rfl hreach]
    generalize s.taken (.safetyClear p) = s1
    simp only [clearsKey_eq, safetyClearRule]
    refine ⟨fun hstop => ?_, fun hstop => ?_⟩
    · simp only [if_pos hstop]
      rfl
    · simp only [if_neg (show ¬ s1.safety.stopN = true by simp [hstop])]
      have hframe := State.updateBlade_eq { s1 with safety := { s1.safety with stopLatch := false } }
      have hcommanded := State.updateBlade_commanded { s1 with safety := { s1.safety with stopLatch := false } }
      have hlevel (hrunning : s1.run.state ≠ .running) (hmanual : s1.run.state ≠ .manual) :
          State.commandedLevel { s1 with safety := { s1.safety with stopLatch := false } } = 0 := by
        exact State.commandedLevel_of_not_drives (RunState.drives_eq_false hrunning hmanual)
      generalize State.updateBlade { s1 with safety := { s1.safety with stopLatch := false } } = u at *
      refine ⟨_, rfl, ?_, ?_, fun hrunning hmanual => hcommanded.trans (hlevel hrunning hmanual), congrArg State.blade hframe, ?_⟩
      · rw [hframe]
        rfl
      · rw [hframe]
        rfl
      · rw [hframe]
        rfl
  · dsimp only
    rw [exec_of_reaches (i := .safetyLimit p watts) rfl rfl hreach]
    generalize s.taken (.safetyLimit p watts) = s1
    simp only [clearsKey_eq, safetyLimitRule, clampNat_eq_max_min (show 100 ≤ 2000 by decide), okOr_eq,
      bne_eq_false_iff_eq]
    by_cases hcut : max 100 (min 2000 watts.toNat) < s1.thermal.grant
    · simp only [if_pos hcut, State.cutGrant_eq]
    · simp only [if_neg hcut]

/-! ## The lapse -/

theorem State.reach_eq (s : State) (moment : Nat) : s.reach moment = { s with now := max s.now moment } := rfl

theorem State.heatEnabled_of_lease {s : State} (h : s.safety.lease ≠ .live) : s.heatEnabled = false := by
  simp [State.heatEnabled, State.leaseLive, h]

theorem State.motionEnabled_of_lease {s : State} (h : s.safety.lease ≠ .live) : s.motionEnabled = false := by
  simp [State.motionEnabled, State.leaseLive, h]

/-- What a lapse leaves (R163, R164). -/
theorem State.lapse_leaves (s : State) : s.enablesLost s.lapse ∧
    (if s.safety.locked then s.stopsInto s.lapse .faulted .fault
      else if s.run.state = .running ∨ s.run.state = .held ∨ s.run.state = .manual then
        s.stopsInto s.lapse .halted .halted
      else s.lapse.run = s.run ∧ s.lapse.log = s.log ∧ s.lapse.notices = s.noticesAfter .halted none none) := by
  have hlost := State.gates_enablesLost (r := s) (s := { s with safety := { s.safety with
    lease := .lapsed, count := 0, keySequence := false } }) rfl rfl (State.heatEnabled_of_lease (by simp))
    (State.motionEnabled_of_lease (by simp))
  simp only [← RunState.halts_iff_states]
  unfold State.lapse
  dsimp only
  by_cases hlocked : s.safety.locked = true
  · simp only [State.gates_frame, if_pos hlocked]
    exact ⟨State.enterFaulted_enablesLost _ _, State.enterFaulted_stopsInto (by simp) (by simp) (by simp)⟩
  · by_cases hhalts : s.run.state.halts = true
    · simp only [State.gates_frame, if_neg hlocked, if_pos hhalts]
      exact ⟨State.enterHalted_enablesLost _ _, State.enterHalted_stopsInto (by simp) (by simp) (by simp)⟩
    · simp only [State.gates_frame, if_neg hlocked, if_neg hhalts]
      refine ⟨hlost, by simp, by simp, ?_⟩
      rw [State.send_notices, State.noticesAfter_congr (s := s) (by simp) (by simp)]

/-- Settles O43: no LIVE lease, a count above 1, and the lapse. -/
theorem leaseCountsDownAndLapses : Obligations.LeaseCountsDownAndLapses := by
  refine ⟨fun s hlease => ?_, fun s hlive hcount => ?_, fun s hlive hcount => ?_⟩
  · simp [exec, execLeaseTick, State.leaseLive, hlease]
  · have hmore : ¬ s.safety.count ≤ 1 := by omega
    simp [exec, execLeaseTick, execLeaseLapse, execLockedLeaseLapse, State.lapseDue, State.leaseLive, hlive, hcount, hmore,
      leaseTime, Config.ms, State.reach_eq]
  · have hless : ¬ 2 ≤ s.safety.count := by omega
    have htick : exec .leaseTick s = .next (s.reach s.safety.leaseDue).lapse := by
      simp [exec, execLeaseTick, State.leaseLive, hlive, hless]
    have hlapse : exec (if s.safety.locked then Instr.lockedLeaseLapse else Instr.leaseLapse) s =
        .next (s.reach s.safety.leaseDue).lapse := by
      split_ifs with hlocked <;>
        simp [exec, execLeaseLapse, execLockedLeaseLapse, State.lapseDue, State.leaseLive, hlive, hlocked, hcount]
    obtain ⟨hlost, hrun⟩ := (s.reach s.safety.leaseDue).lapse_leaves
    dsimp only
    rw [htick, hlapse]
    exact ⟨rfl, _, rfl, by simp, hlost, State.handoverFrame_of_kept (by simp), hrun, State.eq_of_blocks (by simp)⟩

end Sys2Proof.Machine
end

section
/-! SUPPORT. The lease's arming and disarming, and what the examination of the interlocks keeps (R33, R34, R159, R162). -/

namespace Sys2Proof.Machine

/-! ## What the examination keeps -/

/-- A property of heater and blade that the handover of no set point keeps is kept by an addition to the hold-cause
set. -/
theorem State.addCauses_keeps {P : State → Prop}
    (hcongr : ∀ {s t : State}, t.thermal = s.thermal → t.blade = s.blade → P s → P t)
    (hidle : ∀ {s : State}, P s → P s.handIdle) {s : State} (c : CauseSet) (h : P s) : P (s.addCauses c) := by
  have hset : P (s.setCauses (s.run.causes.union c)) := hcongr (s := s) rfl rfl h
  unfold State.addCauses
  dsimp only
  split_ifs
  · exact h
  · exact hcongr (s := (s.setCauses (s.run.causes.union c)).hold) rfl rfl (hidle (hcongr (by simp) (by simp) hset))
  · exact hcongr (s := s.setCauses (s.run.causes.union c)) rfl rfl hset

/-- The same for the examination (R34, R47). -/
theorem State.examine_keeps {P : State → Prop}
    (hcongr : ∀ {s t : State}, t.thermal = s.thermal → t.blade = s.blade → P s → P t)
    (hidle : ∀ {s : State}, P s → P s.handIdle) {s : State} (h : P s) : P s.examine := by
  by_cases hin : s.run.state.inRun = true
  · rw [State.examine_of_inRun hin]
    cases hbegins : s.begins
    · rw [State.examineRun_of_quiet hin hbegins]
      exact hcongr (s := s) rfl rfl h
    · rw [State.examineRun_of_begins hin hbegins]
      exact State.addCauses_keeps hcongr hidle _ (hcongr (s := s) rfl rfl h)
  by_cases hending : s.run.state = .manual ∧ s.ending ≠ {}
  · rw [State.examine_of_ending hending.1 hending.2]
    exact hcongr (s := s.endManual) rfl rfl (hidle (hcongr (by simp) (by simp) h))
  · rwa [State.examine_of_other (by simpa using hin) fun hstate => by_contra fun hne => hending ⟨hstate, hne⟩]

theorem State.examine_still {s : State} (h : s.blade.commanded = 0) : s.examine.blade.commanded = 0 :=
  State.examine_keeps (P := fun s => s.blade.commanded = 0) (fun _ hblade h => by rwa [hblade]) (fun _ => by simp) h

theorem State.handIdle_effective (s : State) : s.handIdle.blade.effective = s.blade.effective := by
  simp [State.handIdle]

theorem State.examine_effective {s : State} : s.examine.blade.effective = s.blade.effective :=
  State.examine_keeps (P := fun u => u.blade.effective = s.blade.effective) (fun _ hblade h => by rwa [hblade])
    (fun h => (State.handIdle_effective _).trans h) rfl

theorem State.handIdle_keeps_cut {s : State} (h : s.thermal.grant = 0 ∧ s.thermal.gate = false) :
    s.handIdle.thermal.grant = 0 ∧ s.handIdle.thermal.gate = false := by
  obtain ⟨hgrant, hgate⟩ := State.handHeat_grant (s.handStir .zero)
  simp only [State.handStir_frame, h.1, h.2, ite_self] at hgrant hgate
  exact ⟨hgrant, hgate⟩

theorem State.examine_cut {s : State} (h : s.thermal.grant = 0 ∧ s.thermal.gate = false) :
    s.examine.thermal.grant = 0 ∧ s.examine.thermal.gate = false :=
  State.examine_keeps (P := fun s => s.thermal.grant = 0 ∧ s.thermal.gate = false)
    (fun hthermal _ h => by rwa [hthermal]) State.handIdle_keeps_cut h

/-- A loss of the enables outlasts the examination. -/
theorem State.enablesLost_examine {s u : State} (h : s.enablesLost u) : s.enablesLost u.examine := by
  obtain ⟨hcommanded, heffective, hcut⟩ := h
  exact ⟨State.examine_still hcommanded, fun hmotion => State.examine_effective.trans (heffective hmotion),
    fun hguarded => State.examine_cut (hcut hguarded)⟩

/-! ## What the examination finds -/

/-- In a run the interlock causes become those that hold (R34). -/
theorem State.examine_interlocks {s : State} (hin : s.run.state.inRun = true) :
    s.examine.run.causes.interlocks = s.stepInterlocks := by
  rw [State.examine_of_inRun hin, State.examineRun_run hin]
  rfl

/-- An interlock that holds has a sound run HELD under it and ACK (R33, R34). -/
theorem State.examine_holds {s : State} (hsound : s.RunSound) (hin : s.run.state.inRun = true)
    (h : s.stepInterlocks ≠ {}) : s.examine.run.state = .held ∧ s.examine.run.causes.ack = true := by
  rw [State.examine_of_inRun hin, State.examineRun_run hin]
  cases hbegins : s.begins
  · have hold : s.run.causes.hasInterlock = true := by
      rw [State.begins_eq_false] at hbegins
      by_contra hnone
      rw [CauseSet.hasInterlock_eq] at hnone
      simp only [Bool.not_eq_true, Bool.or_eq_false_iff, and_assoc] at hnone
      obtain ⟨hlid, hpermit, hlease, hsensor, hmains⟩ := hnone
      refine h ?_
      rw [← hbegins]
      simp [CauseSet.diff, State.stepInterlocks, hlid, hpermit, hlease, hsensor, hmains]
    obtain ⟨-, -, -, hheld, hack, -⟩ := hsound
    refine ⟨?_, by simp [State.examinedCauses, hack hold]⟩
    simpa using hheld.mpr (by rw [CauseSet.isEmpty_eq, hold]; simp)
  · simp [State.examinedCauses, hbegins]

/-! ## LEASE ARM and LEASE DISARM -/

theorem flag_locked {b : Byte} (h : ¬ 1 < b.toNat) : flag (decide (b.toNat = 1)) = u8 b.toNat := by
  rcases (show b.toNat = 0 ∨ b.toNat = 1 by omega) with h | h <;> rw [h] <;> rfl

/-- LEASE ARM's rule once its checks have passed (R159). -/
theorem State.armLease_leaves (s : State) (n : Nat) (locked : Bool) :
    (s.run.state.inRun = true → (s.armLease n locked).run.causes.leaseNotLive = false) ∧
    (s.run.state.inRun = false → s.run.state ≠ .manual →
      s.runKept (s.armLease n locked) ∧ (s.armLease n locked).thermal = s.thermal) ∧
    (s.armLease n locked).KeptByHandover s := by
  refine ⟨fun hin => ?_, fun hin hmanual => ?_, by simp [State.armLease, State.loadLease]⟩
  · unfold State.armLease
    dsimp only
    have h := congrArg CauseSet.leaseNotLive (State.examine_interlocks (s := s.gates (State.loadLease
      { s with safety := { s.safety with lease := .live, period := n, locked := locked } } n)) (by simpa [State.loadLease]))
    refine h.trans ?_
    simp [State.stepInterlocks, State.leaseLive, State.loadLease]
  · have hother : s.armLease n locked = s.gates (State.loadLease
        { s with safety := { s.safety with lease := .live, period := n, locked := locked } } n) :=
      State.examine_of_other (by simpa [State.loadLease]) (fun h => absurd (by simpa [State.loadLease] using h) hmanual)
    have henabled : (s.heatEnabled && !(State.loadLease { s with safety := { s.safety with
        lease := .live, period := n, locked := locked } } n).heatEnabled) = false := by
      cases henabled : s.heatEnabled
      · rfl
      have hlive : s.safety.lease = .live := by
        by_contra hlease
        rw [State.heatEnabled_of_lease hlease] at henabled
        cases henabled
      have hsame : (State.loadLease { s with safety := { s.safety with
          lease := .live, period := n, locked := locked } } n).heatEnabled = s.heatEnabled := by
        unfold State.heatEnabled State.leaseLive
        rw [hlive]
        rfl
      rw [hsame, henabled]
      rfl
    rw [hother]
    refine ⟨⟨by simp [State.loadLease], by simp [State.loadLease], by simp [State.loadLease]⟩, ?_⟩
    rw [State.gates_thermal, henabled]
    rfl

/-- LEASE DISARM's rule for a lease that is not UNARMED (R162). -/
theorem State.disarmLease_leaves (s : State) : s.enablesLost s.disarmLease ∧
    (s.stepNeedsHeat = true ∨ s.stepNeedsMotion = true → s.RunSound → s.disarmLease.run.state = .held ∧
      s.disarmLease.run.causes.leaseNotLive = true ∧ s.disarmLease.run.causes.ack = true) ∧
    (s.run.state.inRun = false → s.run.state ≠ .manual → s.runKept s.disarmLease) ∧
    s.disarmLease.KeptByHandover s := by
  refine ⟨State.enablesLost_examine (State.gates_enablesLost rfl rfl (State.heatEnabled_of_lease (by simp))
    (State.motionEnabled_of_lease (by simp))), fun hneeds hsound => ?_, fun hin hmanual => ?_, by simp [State.disarmLease]⟩
  · have hin : s.run.state.inRun = true := by
      by_contra hin
      simp [State.stepNeedsHeat, State.stepNeedsMotion, State.activeRecord, State.stepActive, hin] at hneeds
    have hlease : (s.gates { s with safety := { s.safety with
        lease := .unarmed, count := 0, locked := false } }).stepInterlocks.leaseNotLive = true := by
      simpa [State.stepInterlocks, State.leaseLive, State.stepNeedsHeat, State.stepNeedsMotion, State.activeRecord,
        State.stepActive, State.record] using hneeds
    obtain ⟨hheld, hack⟩ := State.examine_holds (s := s.gates { s with safety := { s.safety with
      lease := .unarmed, count := 0, locked := false } }) (State.runSound_gates (s := { s with safety := { s.safety with
      lease := .unarmed, count := 0, locked := false } }) hsound) (by simpa) (by rintro h; rw [h] at hlease; cases hlease)
    exact ⟨hheld, (congrArg CauseSet.leaseNotLive (State.examine_interlocks (by simpa))).trans hlease, hack⟩
  · have hother : s.disarmLease = s.gates { s with safety := { s.safety with
        lease := .unarmed, count := 0, locked := false } } :=
      State.examine_of_other (by simpa) (fun h => absurd (by simpa using h) hmanual)
    rw [hother]
    exact ⟨by simp, by simp, by simp⟩

/-- Settles O39: the refusals, the arming, and the disarming with what it takes away. -/
theorem leaseIsArmedAndDisarmed : Obligations.LeaseIsArmedAndDisarmed := by
  refine ⟨fun p period locked s hreach => ?_, fun p s hreach => ?_⟩
  · dsimp only
    rw [exec_of_reaches (i := .leaseArm p period locked) rfl rfl hreach]
    generalize s.taken (.leaseArm p period locked) = s1
    simp only [clearsKey_eq, leaseArmRule, clampNat_eq_max_min (show 5 ≤ 80 by decide), State.leaseLive, Bool.and_eq_true,
      decide_eq_true_eq]
    generalize max 5 (min 80 period.toNat) = n
    by_cases hbyte : 1 < locked.toNat
    · simp only [if_pos hbyte]
      rfl
    by_cases hlocked : s1.safety.lease = .live ∧ s1.safety.locked = true
    · simp only [if_neg hbyte, if_pos hlocked]
      rfl
    simp only [if_neg hbyte, if_neg hlocked]
    obtain ⟨hcause, hrest, hkept⟩ := s1.armLease_leaves n (decide (locked.toNat = 1))
    have hone : decide (locked.toNat = 1) = decide (locked = 1) := by
      rw [decide_eq_decide, ← BitVec.toNat_inj]
      rfl
    have hsafety := s1.armLease_safety n (decide (locked.toNat = 1))
    have hframe := s1.armLease_frame n (decide (locked.toNat = 1))
    generalize s1.armLease n (decide (locked.toNat = 1)) = u at *
    refine ⟨_, rfl, ?_, ?_, hcause, hrest, State.handoverFrame_of_kept hkept, State.eq_of_blocks (by simp [hframe])⟩
    · simp [hsafety, hone, leaseTime, Config.ms]
    · simp [hframe, hsafety, flag_locked hbyte, okOr_eq, bne_eq_false_iff_eq, LeaseState.code]
  · dsimp only
    rw [exec_of_reaches (i := .leaseDisarm p) rfl rfl hreach]
    generalize s.taken (.leaseDisarm p) = s1
    simp only [clearsKey_eq, leaseDisarmRule, State.leaseLive, Bool.and_eq_true, decide_eq_true_eq]
    by_cases hlocked : s1.safety.lease = .live ∧ s1.safety.locked = true
    · simp only [if_pos hlocked]
      rfl
    by_cases hunarmed : s1.safety.lease = .unarmed
    · have hcode : u8 s1.safety.lease.code = u8 0 := by rw [hunarmed]; rfl
      simp only [if_neg hlocked, if_pos hunarmed, hcode]
    simp only [if_neg hlocked, if_neg hunarmed]
    obtain ⟨hlost, hheld, hrest, hkept⟩ := s1.disarmLease_leaves
    have hsafety := s1.disarmLease_safety
    have hframe := s1.disarmLease_frame
    generalize s1.disarmLease = u at *
    exact ⟨_, rfl, by simp [hsafety], by simp [hframe, hsafety, LeaseState.code, flag], hlost, hheld, hrest,
      State.handoverFrame_of_kept hkept, State.eq_of_blocks (by simp [hframe])⟩

end Sys2Proof.Machine
end

section
/-! SUPPORT. The slow lines: what one sample of one line leaves, and the three samples of one moment (R34, R46, R151,
R152). -/

namespace Sys2Proof.Machine

/-! ## What the interlocks read -/

/-- The blocks and levels that the interlock conditions read. -/
abbrev State.SameInterlocks (t s : State) : Prop :=
  t.run.state.inRun = s.run.state.inRun ∧ t.run.phase = s.run.phase ∧ t.run.cursor = s.run.cursor ∧
  t.program.steps = s.program.steps ∧ t.thermal.base = s.thermal.base ∧ t.thermal.mains = s.thermal.mains ∧
  t.safety.lease = s.safety.lease ∧ t.safety.heatPermit.active = s.safety.heatPermit.active ∧
  t.safety.motionPermit.active = s.safety.motionPermit.active ∧ t.safety.lidClosed.active = s.safety.lidClosed.active

theorem State.interlocks_congr {s t : State} (h : t.SameInterlocks s) :
    t.stepInterlocks = s.stepInterlocks ∧ t.manualInterlocks = s.manualInterlocks := by
  obtain ⟨hin, hphase, hcursor, hsteps, hbase, hmains, hlease, hheat, hmotion, hlid⟩ := h
  refine ⟨?_, ?_⟩
  · simp [State.stepInterlocks, State.stepActive, State.stepNeedsHeat, State.stepNeedsMotion, State.activeRecord,
      State.record, State.leaseLive, State.mainsLost, hin, hphase, hcursor, hsteps, hbase, hmains, hlease, hheat, hmotion,
      hlid]
  · funext level heat
    simp [State.manualInterlocks, State.leaseLive, State.mainsLost, hbase, hmains, hlease, hheat, hmotion, hlid]

/-- What the examination is written against. -/
theorem State.reexamined_congr {s s' t t' : State} {n : PerPort NoticeList} (hrun : s'.run = s.run)
    (hlength : s'.program.length = s.program.length) (htrun : t'.run = t.run) (htnotices : t'.notices = t.notices)
    (hinterlocks : t'.stepInterlocks = t.stepInterlocks ∧ t'.manualInterlocks = t.manualInterlocks)
    (h : s.reexamined t n) : s'.reexamined t' n := by
  simp only [State.reexamined, hrun, hlength, htrun, htnotices, hinterlocks] at h ⊢
  exact h

/-- A moment and the filters' own counts are nothing to what the examination is written against. -/
theorem State.reexamined_of_same {s s0 t : State} {kind : NoticeKind} {v : Option NoticeValue} (hrun : s.run = s0.run)
    (hlength : s.program.length = s0.program.length) (hnotices : s.notices = s0.notices)
    (h : s0.reexamined t (s0.noticesAfter kind s0.runIndex v)) :
    s.reexamined t (s.noticesAfter kind s.runIndex v) := by
  rw [State.noticesAfter_congr hnotices (by rw [hrun]), State.runIndex_congr hrun]
  exact State.reexamined_congr hrun hlength rfl rfl ⟨rfl, rfl⟩ h

/-! ## One sample of one line -/

/-- A line after one sample, as R151 says it. -/
theorem Filtered.sample_eq (f : Filtered) (level : Bool) : f.sample level =
    if level = f.active then ⟨f.active, 0⟩ else if f.count < 2 then ⟨f.active, f.count + 1⟩ else ⟨level, 0⟩ := by
  unfold Filtered.sample
  by_cases hsame : level = f.active
  · simp [hsame]
  · by_cases hcount : f.count < 2
    · simp only [if_neg hsame, if_pos hcount, if_neg (show ¬ 3 ≤ f.count + 1 by omega)]
    · simp only [if_neg hsame, if_neg hcount, if_pos (show 3 ≤ f.count + 1 by omega)]

/-- The line's filtered level turns at this sample. -/
abbrev State.turns (s : State) (l : SlowLine) (level : Bool) : Prop :=
  ((s.safety.line l).sample level).active ≠ (s.safety.line l).active

theorem State.sampleLine_of_same {s : State} {l : SlowLine} {level : Bool} (h : ¬ s.turns l level) :
    s.sampleLine l level = { s with safety := s.safety.setLine l ((s.safety.line l).sample level) } := by
  rw [State.sampleLine]
  exact if_pos (not_not.mp h)

theorem State.sampleLine_of_turns {s : State} {l : SlowLine} {level : Bool} (h : s.turns l level) :
    s.sampleLine l level =
      ((s.gates { s with safety := s.safety.setLine l ((s.safety.line l).sample level) }).send .permitChange s.runIndex
        (some (.lineChange l ((s.safety.line l).sample level).active))).examine := by
  rw [State.sampleLine]
  refine (if_neg h).trans ?_
  dsimp only
  rw [State.runIndex_congr (s := s) (t := s.gates _) (by simp)]

@[simp] theorem State.sampleLine_kept (s : State) (l : SlowLine) (level : Bool) :
    (s.sampleLine l level).KeptByHandover s := by
  by_cases h : s.turns l level
  · rw [State.sampleLine_of_turns h]
    simp
  · rw [State.sampleLine_of_same h]
    simp

/-- A sample that turns no level leaves what the interlocks read. -/
theorem Safety.setLine_levels (s : Safety) (l : SlowLine) (f : Filtered) (h : f.active = (s.line l).active) :
    (s.setLine l f).lease = s.lease ∧ (s.setLine l f).heatPermit.active = s.heatPermit.active ∧
    (s.setLine l f).motionPermit.active = s.motionPermit.active ∧
    (s.setLine l f).lidClosed.active = s.lidClosed.active := by
  cases l with
  | heatPermit => exact ⟨rfl, h, rfl, rfl⟩
  | motionPermit => exact ⟨rfl, rfl, h, rfl⟩
  | lidClosed => exact ⟨rfl, rfl, rfl, h⟩

theorem State.sampleLine_sameInterlocks {s : State} {l : SlowLine} {level : Bool} (h : ¬ s.turns l level) :
    (s.sampleLine l level).SameInterlocks s ∧ (s.sampleLine l level).run = s.run ∧
    (s.sampleLine l level).notices = s.notices := by
  have hlevels := s.safety.setLine_levels l ((s.safety.line l).sample level) (not_not.mp h)
  rw [State.sampleLine_of_same h]
  exact ⟨⟨rfl, rfl, rfl, rfl, rfl, rfl, hlevels⟩, rfl, rfl⟩

/-- A turned level is noticed, and then the interlocks are examined (R152). -/
theorem State.sampleLine_reexamined {s : State} {l : SlowLine} {level : Bool} (h : s.turns l level) :
    s.reexamined (s.sampleLine l level) (s.noticesAfter .permitChange s.runIndex
      (some (.lineChange l ((s.safety.line l).sample level).active))) := by
  rw [State.sampleLine_of_turns h]
  have hafter := State.examine_reexamined ((s.gates { s with
    safety := s.safety.setLine l ((s.safety.line l).sample level) }).send .permitChange s.runIndex
      (some (.lineChange l ((s.safety.line l).sample level).active)))
  rw [State.send_notices, State.noticesAfter_congr (s := s) (by simp) (by simp)] at hafter
  exact State.reexamined_congr (by simp) (by simp) rfl rfl ⟨rfl, rfl⟩ hafter

/-! ### The run -/

/-- In a run the examination touches run state and set, and the set's interlock causes and ACK alone (R33, R34). -/
theorem State.examine_run_of_inRun {s : State} (hin : s.run.state.inRun = true) : s.examine.run = { s.run with
    state := s.examine.run.state
    causes := { s.run.causes with
      lid := s.examine.run.causes.lid, permit := s.examine.run.causes.permit
      leaseNotLive := s.examine.run.causes.leaseNotLive, sensor := s.examine.run.causes.sensor
      mains := s.examine.run.causes.mains, ack := s.examine.run.causes.ack } } ∧
    s.examine.run.state.inRun = true := by
  rw [State.examine_of_inRun hin]
  exact ⟨by rw [State.examineRun_run hin]; rfl, s.examineRun_inRun.trans hin⟩

theorem State.sampleLine_run {s : State} (hin : s.run.state.inRun = true) (l : SlowLine) (level : Bool) :
    (s.sampleLine l level).run = { s.run with
      state := (s.sampleLine l level).run.state
      causes := { s.run.causes with
        lid := (s.sampleLine l level).run.causes.lid, permit := (s.sampleLine l level).run.causes.permit
        leaseNotLive := (s.sampleLine l level).run.causes.leaseNotLive
        sensor := (s.sampleLine l level).run.causes.sensor, mains := (s.sampleLine l level).run.causes.mains
        ack := (s.sampleLine l level).run.causes.ack } } ∧
    (s.sampleLine l level).run.state.inRun = true := by
  by_cases h : s.turns l level
  · rw [State.sampleLine_of_turns h]
    have hrun := State.examine_run_of_inRun (s := (s.gates { s with
      safety := s.safety.setLine l ((s.safety.line l).sample level) }).send .permitChange s.runIndex
        (some (.lineChange l ((s.safety.line l).sample level).active))) (by simpa)
    rwa [State.send_run, (s.gates_frame _).2.2.1] at hrun
  · rw [State.sampleLine_of_same h]
    exact ⟨rfl, hin⟩

/-- Outside a run and outside MANUAL the lines are nothing to the run. -/
theorem State.sampleLine_run_at_rest {s : State} (hin : s.run.state.inRun = false) (hmanual : s.run.state ≠ .manual)
    (l : SlowLine) (level : Bool) : (s.sampleLine l level).run = s.run := by
  by_cases h : s.turns l level
  · rw [State.sampleLine_of_turns h, State.examine_of_other (by simpa) fun hstate => absurd (by simpa using hstate) hmanual]
    simp
  · rw [State.sampleLine_of_same h]

/-- The interlock causes of a run are those whose conditions hold. -/
abbrev State.InterlocksFollow (s : State) : Prop := s.run.causes.interlocks = s.stepInterlocks

/-- They are after a level has turned, and stay so. -/
theorem State.sampleLine_follows {s : State} (hin : s.run.state.inRun = true) {l : SlowLine} {level : Bool}
    (h : s.turns l level ∨ s.InterlocksFollow) : (s.sampleLine l level).InterlocksFollow := by
  by_cases hturns : s.turns l level
  · have hfollow := State.examine_interlocks (s := (s.gates { s with
      safety := s.safety.setLine l ((s.safety.line l).sample level) }).send .permitChange s.runIndex
        (some (.lineChange l ((s.safety.line l).sample level).active))) (by simpa)
    have hsame : (s.sampleLine l level).stepInterlocks = State.stepInterlocks ((s.gates { s with
        safety := s.safety.setLine l ((s.safety.line l).sample level) }).send .permitChange s.runIndex
          (some (.lineChange l ((s.safety.line l).sample level).active))) := by
      refine (State.interlocks_congr ?_).1
      obtain ⟨hrun, hin'⟩ := State.sampleLine_run hin l level
      rw [State.SameInterlocks, hin', hrun]
      simp [hin]
    rw [State.InterlocksFollow, hsame, State.sampleLine_of_turns hturns]
    exact hfollow
  · obtain ⟨hsame, hrun, -⟩ := State.sampleLine_sameInterlocks hturns
    rw [State.InterlocksFollow, hrun, (State.interlocks_congr hsame).1]
    exact h.resolve_left hturns

/-- A lid that opens holds an ACTIVE step of a sound run (R34). -/
theorem State.sampleLine_lid {s : State} (hsound : s.RunSound) (hactive : s.stepActive = true) {level : Bool}
    (h : s.turns .lidClosed level) (hoff : (s.safety.lidClosed.sample level).active = false) :
    (s.sampleLine .lidClosed level).run.state = .held ∧ (s.sampleLine .lidClosed level).run.causes.lid = true ∧
    (s.sampleLine .lidClosed level).run.causes.ack = true := by
  have hin : s.run.state.inRun = true := by
    simp only [State.stepActive, Bool.and_eq_true] at hactive
    exact hactive.1
  have hlid : (State.stepInterlocks ((s.gates { s with
      safety := s.safety.setLine .lidClosed ((s.safety.line .lidClosed).sample level) }).send .permitChange s.runIndex
        (some (.lineChange .lidClosed ((s.safety.line .lidClosed).sample level).active)))).lid = true := by
    simpa [State.stepInterlocks, State.stepActive, Safety.setLine, Safety.line, hoff] using hactive
  rw [State.sampleLine_of_turns h]
  obtain ⟨hheld, hack⟩ := State.examine_holds (s := (s.gates { s with
      safety := s.safety.setLine .lidClosed ((s.safety.line .lidClosed).sample level) }).send .permitChange s.runIndex
        (some (.lineChange .lidClosed ((s.safety.line .lidClosed).sample level).active)))
    (State.runSound_congr (s := s) (by simp) hsound) (by simpa) (by rintro h; rw [h] at hlid; cases hlid)
  exact ⟨hheld, (congrArg CauseSet.lid (State.examine_interlocks (by simpa))).trans hlid, hack⟩


/-! ### Heat and motion -/

theorem State.heaterGuarded_congr {s t : State} (hgrant : t.thermal.grant = s.thermal.grant)
    (hgate : t.thermal.gate = s.thermal.gate) (henabled : s.heatEnabled = true → t.heatEnabled = true)
    (h : s.HeaterGuarded) : t.HeaterGuarded := by
  rw [State.HeaterGuarded, hgrant, hgate]
  exact ⟨h.1, fun hpos => henabled (h.2 hpos)⟩

theorem State.heaterGuarded_of_cut {s : State} (h : s.thermal.grant = 0 ∧ s.thermal.gate = false) :
    s.HeaterGuarded := by
  simp [State.HeaterGuarded, h.1, h.2]

/-- A guarded heater that is not enabled has no grant and does not fire. -/
theorem State.HeaterGuarded.cut {s : State} (hs : s.HeaterGuarded) (h : s.heatEnabled = false) :
    s.thermal.grant = 0 ∧ s.thermal.gate = false := by
  obtain ⟨hfires, henabled⟩ := hs
  have hzero : s.thermal.grant = 0 := by
    by_contra hpos
    simp [henabled (Nat.pos_of_ne_zero hpos)] at h
  refine ⟨hzero, Bool.eq_false_iff.mpr fun hgate => ?_⟩
  have := hfires hgate
  omega

/-- The examination cuts the grant or keeps it (R115). -/
theorem State.examine_grant (s : State) : (s.examine.thermal.grant = 0 ∧ s.examine.thermal.gate = false) ∨
    (s.examine.thermal.grant = s.thermal.grant ∧ s.examine.thermal.gate = s.thermal.gate) := by
  refine State.examine_keeps (P := fun u => (u.thermal.grant = 0 ∧ u.thermal.gate = false) ∨
    (u.thermal.grant = s.thermal.grant ∧ u.thermal.gate = s.thermal.gate)) (fun hthermal _ h => by rwa [hthermal])
    (fun {u} h => ?_) (.inr ⟨rfl, rfl⟩)
  obtain ⟨hgrant, hgate⟩ := State.handHeat_grant (u.handStir .zero)
  simp only [State.handStir_frame] at hgrant hgate
  rw [State.handIdle, hgrant, hgate]
  split_ifs
  · exact .inl ⟨rfl, rfl⟩
  · exact h

theorem State.heaterGuarded_examine {s : State} (h : s.HeaterGuarded) : s.examine.HeaterGuarded := by
  rcases s.examine_grant with hcut | ⟨hgrant, hgate⟩
  · exact State.heaterGuarded_of_cut hcut
  by_cases hending : s.run.state = .manual ∧ s.ending ≠ {}
  · rw [State.examine_of_ending hending.1 hending.2]
    obtain ⟨-, -, hcut⟩ := s.endManual_still
    exact State.heaterGuarded_of_cut (by simpa using hcut)
  refine State.heaterGuarded_congr hgrant hgate (fun henabled => ?_) h
  by_cases hin : s.run.state.inRun = true
  · simpa [State.heatEnabled, State.leaseLive, State.mainsLost, (State.examine_run_of_inRun hin).2, hin] using henabled
  · rwa [State.examine_of_other (by simpa using hin) fun hstate => by_contra fun hne => hending ⟨hstate, hne⟩]

theorem State.heaterGuarded_gates {r s : State} (hgrant : s.thermal.grant = r.thermal.grant)
    (hgate : s.thermal.gate = r.thermal.gate) (h : r.HeaterGuarded) : (r.gates s).HeaterGuarded := by
  by_cases henabled : s.heatEnabled = true
  · refine State.heaterGuarded_congr (s := r) ?_ ?_ (fun _ => (State.gates_heatEnabled r s).trans henabled) h
    all_goals simp [State.gates_thermal, henabled, hgrant, hgate]
  · exact State.heaterGuarded_of_cut (State.gates_cut h hgrant hgate (by simpa using henabled))

theorem State.heaterGuarded_sampleLine {s : State} (l : SlowLine) (level : Bool) (h : s.HeaterGuarded) :
    (s.sampleLine l level).HeaterGuarded := by
  by_cases hturns : s.turns l level
  · rw [State.sampleLine_of_turns hturns]
    refine State.heaterGuarded_examine (State.heaterGuarded_congr (s := s.gates { s with
      safety := s.safety.setLine l ((s.safety.line l).sample level) }) (by simp) (by simp)
      (fun henabled => ?_) (State.heaterGuarded_gates rfl rfl h))
    simpa [State.heatEnabled, State.leaseLive, State.mainsLost] using henabled
  · obtain ⟨hlease, hheat, -, hlid⟩ := s.safety.setLine_levels l ((s.safety.line l).sample level) (not_not.mp hturns)
    have hlatch : (s.safety.setLine l ((s.safety.line l).sample level)).stopLatch = s.safety.stopLatch := by
      cases l <;> rfl
    rw [State.sampleLine_of_same hturns]
    refine State.heaterGuarded_congr (s := s) rfl rfl (fun henabled => ?_) h
    simpa [State.heatEnabled, State.leaseLive, State.mainsLost, hlatch, hlease, hheat, hlid] using henabled

/-- A line that turns takes the level away where motion is no longer enabled, and no later sample gives it back. -/
theorem State.sampleLine_still {s : State} {l : SlowLine} {level : Bool}
    (hmotion : State.motionEnabled { s with safety := s.safety.setLine l ((s.safety.line l).sample level) } = false)
    (h : s.turns l level ∨ s.blade.commanded = 0) : (s.sampleLine l level).blade.commanded = 0 := by
  by_cases hturns : s.turns l level
  · rw [State.sampleLine_of_turns hturns]
    exact State.examine_still (State.gates_still hmotion)
  · rw [State.sampleLine_of_same hturns]
    exact h.resolve_left hturns


/-! ## The three samples of one moment (log entry 10) -/

/-- The three lines take their samples in turn. -/
def State.sampleLines (s : State) (heat motion lid : Bool) : State :=
  ((s.sampleLine .heatPermit heat).sampleLine .motionPermit motion).sampleLine .lidClosed lid

theorem State.turns_motion (s : State) (heat motion : Bool) :
    (s.sampleLine .heatPermit heat).turns .motionPermit motion ↔ s.turns .motionPermit motion := by
  simp [State.turns, State.sampleLine_safety, Safety.setLine, Safety.line]

theorem State.turns_lid (s : State) (heat motion lid : Bool) :
    ((s.sampleLine .heatPermit heat).sampleLine .motionPermit motion).turns .lidClosed lid ↔ s.turns .lidClosed lid := by
  simp [State.turns, State.sampleLine_safety, Safety.setLine, Safety.line]

theorem State.sampleLines_safety (s : State) (heat motion lid : Bool) : (s.sampleLines heat motion lid).safety =
    { s.safety with
      heatPermit := s.safety.heatPermit.sample heat, motionPermit := s.safety.motionPermit.sample motion
      lidClosed := s.safety.lidClosed.sample lid } := by
  simp [State.sampleLines, State.sampleLine_safety, Safety.setLine, Safety.line]

/-- No level turns: the filters alone have moved. -/
theorem State.sampleLines_of_same {s : State} {heat motion lid : Bool} (hheat : ¬ s.turns .heatPermit heat)
    (hmotion : ¬ s.turns .motionPermit motion) (hlid : ¬ s.turns .lidClosed lid) :
    s.sampleLines heat motion lid = { s with safety := (s.sampleLines heat motion lid).safety } := by
  rw [← State.turns_motion s heat] at hmotion
  rw [← State.turns_lid s heat motion] at hlid
  rw [State.sampleLines_safety, State.sampleLines, State.sampleLine_of_same hlid, State.sampleLine_of_same hmotion,
    State.sampleLine_of_same hheat]
  rfl

/-- Heat is lost with HEAT_PERMIT or the lid (R152). -/
theorem State.sampleLines_cut {s : State} {heat motion lid : Bool} (hguarded : s.HeaterGuarded)
    (h : (s.safety.heatPermit.sample heat).active = false ∨ (s.safety.lidClosed.sample lid).active = false) :
    (s.sampleLines heat motion lid).thermal.grant = 0 ∧ (s.sampleLines heat motion lid).thermal.gate = false := by
  refine State.HeaterGuarded.cut (State.heaterGuarded_sampleLine _ _ (State.heaterGuarded_sampleLine _ _
    (State.heaterGuarded_sampleLine _ _ hguarded))) ?_
  rcases h with h | h <;> simp [State.heatEnabled, State.sampleLines_safety, h]

/-- Motion is lost with MOTION_PERMIT or the lid (R152). -/
theorem State.sampleLines_still {s : State} {heat motion lid : Bool}
    (h : (s.turns .motionPermit motion ∧ (s.safety.motionPermit.sample motion).active = false) ∨
      (s.turns .lidClosed lid ∧ (s.safety.lidClosed.sample lid).active = false)) :
    (s.sampleLines heat motion lid).blade.commanded = 0 := by
  rcases h with ⟨hturns, hoff⟩ | ⟨hturns, hoff⟩
  · refine State.sampleLine_still (by simp [State.motionEnabled, Safety.setLine, Safety.line, hoff]) (.inr ?_)
    refine State.sampleLine_still ?_ (.inl ((s.turns_motion heat motion).mpr hturns))
    simp [State.motionEnabled, Safety.setLine, Safety.line, hoff]
  · exact State.sampleLine_still (by simp [State.motionEnabled, Safety.setLine, Safety.line, hoff])
      (.inl ((s.turns_lid heat motion lid).mpr hturns))

/-- An ACTIVE step stays so under a sample. -/
theorem State.sampleLine_stepActive {s : State} (h : s.stepActive = true) (l : SlowLine) (level : Bool) :
    (s.sampleLine l level).stepActive = true := by
  simp only [State.stepActive, Bool.and_eq_true] at h ⊢
  obtain ⟨hrun, hin⟩ := State.sampleLine_run h.1 l level
  exact ⟨hin, by rw [hrun]; exact h.2⟩

/-- An open lid holds an ACTIVE step (R34). -/
theorem State.sampleLines_lid {s : State} {heat motion lid : Bool} (hsound : s.RunSound) (hactive : s.stepActive = true)
    (hturns : s.turns .lidClosed lid) (hoff : (s.safety.lidClosed.sample lid).active = false) :
    (s.sampleLines heat motion lid).run.state = .held ∧ (s.sampleLines heat motion lid).run.causes.lid = true ∧
    (s.sampleLines heat motion lid).run.causes.ack = true := by
  refine State.sampleLine_lid (State.runSound_sampleLine _ _ (State.runSound_sampleLine _ _ hsound))
    (State.sampleLine_stepActive (State.sampleLine_stepActive hactive _ _) _ _)
    ((s.turns_lid heat motion lid).mpr hturns) ?_
  simpa [State.sampleLine_safety, Safety.setLine, Safety.line] using hoff

/-- In a run the three samples touch the run state, the interlock causes and ACK alone. -/
theorem State.sampleLines_run {s : State} (hin : s.run.state.inRun = true) (heat motion lid : Bool) :
    (s.sampleLines heat motion lid).run = { s.run with
      state := (s.sampleLines heat motion lid).run.state
      causes := { s.run.causes with
        lid := (s.sampleLines heat motion lid).run.causes.lid
        permit := (s.sampleLines heat motion lid).run.causes.permit
        leaseNotLive := (s.sampleLines heat motion lid).run.causes.leaseNotLive
        sensor := (s.sampleLines heat motion lid).run.causes.sensor
        mains := (s.sampleLines heat motion lid).run.causes.mains
        ack := (s.sampleLines heat motion lid).run.causes.ack } } := by
  unfold State.sampleLines
  obtain ⟨hrun1, hin1⟩ := State.sampleLine_run hin .heatPermit heat
  obtain ⟨hrun2, hin2⟩ := State.sampleLine_run hin1 .motionPermit motion
  obtain ⟨hrun3, -⟩ := State.sampleLine_run hin2 .lidClosed lid
  rw [hrun2, hrun1] at hrun3
  exact hrun3

/-- After any change the interlock causes of a run are those whose conditions hold. -/
theorem State.sampleLines_follows {s : State} (hin : s.run.state.inRun = true) {heat motion lid : Bool}
    (h : s.turns .heatPermit heat ∨ s.turns .motionPermit motion ∨ s.turns .lidClosed lid) :
    (s.sampleLines heat motion lid).InterlocksFollow := by
  rw [← State.turns_motion s heat, ← State.turns_lid s heat motion] at h
  obtain ⟨-, hin1⟩ := State.sampleLine_run hin .heatPermit heat
  obtain ⟨-, hin2⟩ := State.sampleLine_run hin1 .motionPermit motion
  refine State.sampleLine_follows hin2 ?_
  rcases h with hheat | hmotion | hlid
  · exact .inr (State.sampleLine_follows hin1 (.inr (State.sampleLine_follows hin (.inl hheat))))
  · exact .inr (State.sampleLine_follows hin1 (.inl hmotion))
  · exact .inl hlid

theorem State.sampleLines_run_at_rest {s : State} (hin : s.run.state.inRun = false) (hmanual : s.run.state ≠ .manual)
    (heat motion lid : Bool) : (s.sampleLines heat motion lid).run = s.run := by
  unfold State.sampleLines
  have h1 := State.sampleLine_run_at_rest hin hmanual .heatPermit heat
  have h2 := State.sampleLine_run_at_rest (s := s.sampleLine .heatPermit heat) (by rwa [h1]) (by rwa [h1])
    .motionPermit motion
  rw [State.sampleLine_run_at_rest (by rwa [h2, h1]) (by rwa [h2, h1]), h2, h1]

/-- A single line that turns is noticed and examined (R152). -/
theorem State.sampleLines_heat {s : State} {heat motion lid : Bool} (hheat : s.turns .heatPermit heat)
    (hmotion : ¬ s.turns .motionPermit motion) (hlid : ¬ s.turns .lidClosed lid) :
    s.reexamined (s.sampleLines heat motion lid) (s.noticesAfter .permitChange s.runIndex
      (some (.lineChange .heatPermit (s.safety.heatPermit.sample heat).active))) := by
  rw [← State.turns_motion s heat] at hmotion
  rw [← State.turns_lid s heat motion] at hlid
  obtain ⟨hsame2, hrun2, hnotices2⟩ := State.sampleLine_sameInterlocks hmotion
  obtain ⟨hsame3, hrun3, hnotices3⟩ := State.sampleLine_sameInterlocks hlid
  exact State.reexamined_congr rfl rfl (hrun3.trans hrun2) (hnotices3.trans hnotices2)
    ⟨(State.interlocks_congr hsame3).1.trans (State.interlocks_congr hsame2).1,
      (State.interlocks_congr hsame3).2.trans (State.interlocks_congr hsame2).2⟩ (State.sampleLine_reexamined hheat)

theorem State.sampleLines_motion {s : State} {heat motion lid : Bool} (hheat : ¬ s.turns .heatPermit heat)
    (hmotion : s.turns .motionPermit motion) (hlid : ¬ s.turns .lidClosed lid) :
    s.reexamined (s.sampleLines heat motion lid) (s.noticesAfter .permitChange s.runIndex
      (some (.lineChange .motionPermit (s.safety.motionPermit.sample motion).active))) := by
  rw [← State.turns_motion s heat] at hmotion
  rw [← State.turns_lid s heat motion] at hlid
  obtain ⟨-, hrun1, hnotices1⟩ := State.sampleLine_sameInterlocks hheat
  obtain ⟨hsame3, hrun3, hnotices3⟩ := State.sampleLine_sameInterlocks hlid
  have hafter := State.sampleLine_reexamined hmotion
  rw [State.noticesAfter_congr hnotices1 (by rw [hrun1]), State.runIndex_congr hrun1, State.sampleLine_safety] at hafter
  exact State.reexamined_congr hrun1.symm (by simp) hrun3 hnotices3 (State.interlocks_congr hsame3) hafter

theorem State.sampleLines_lidChange {s : State} {heat motion lid : Bool} (hheat : ¬ s.turns .heatPermit heat)
    (hmotion : ¬ s.turns .motionPermit motion) (hlid : s.turns .lidClosed lid) :
    s.reexamined (s.sampleLines heat motion lid) (s.noticesAfter .permitChange s.runIndex
      (some (.lineChange .lidClosed (s.safety.lidClosed.sample lid).active))) := by
  rw [← State.turns_motion s heat] at hmotion
  rw [← State.turns_lid s heat motion] at hlid
  obtain ⟨-, hrun1, hnotices1⟩ := State.sampleLine_sameInterlocks hheat
  obtain ⟨-, hrun2, hnotices2⟩ := State.sampleLine_sameInterlocks hmotion
  have hafter := State.sampleLine_reexamined hlid
  rw [State.noticesAfter_congr (hnotices2.trans hnotices1) (by rw [hrun2, hrun1]),
    State.runIndex_congr (hrun2.trans hrun1), State.sampleLine_safety, State.sampleLine_safety] at hafter
  exact State.reexamined_congr (hrun2.trans hrun1).symm (by simp) rfl rfl ⟨rfl, rfl⟩ hafter

@[simp] theorem State.sampleLines_kept (s : State) (heat motion lid : Bool) :
    (s.sampleLines heat motion lid).KeptByHandover s := by
  simp [State.sampleLines]

/-- Settles O44: the interlock conditions, then the three samples with what each level that turns does. -/
theorem lineSamplesAreFiltered : Obligations.LineSamplesAreFiltered := by
  refine ⟨fun s => ⟨State.stepInterlocks_of_inactive, fun r hr hactive => ?_⟩, fun level heat s => ?_, fun heat motion lid s => ?_⟩
  · simp [State.stepInterlocks, State.stepNeedsHeat, State.stepNeedsMotion, State.activeRecord, hactive, hr,
      State.leaseLive, State.mainsLost, StepRecord.needsHeat, StepRecord.needsMotion]
  · simp [State.manualInterlocks, State.leaseLive, State.mainsLost]
  · simp only [← Filtered.sample_eq]
    obtain ⟨s0, hs0⟩ : ∃ s0 : State, s0 = { s with
        now := max s.now s.safety.samplerDue
        safety := { s.safety with samplerDue := s.safety.samplerDue + 3000 * s.safety.interval } } := ⟨_, rfl⟩
    have hstep : exec (.lineFilterSample heat motion lid) s = .next (s0.sampleLines heat motion lid) := by rw [hs0]; rfl
    have hpermit : s.safety.heatPermit = s0.safety.heatPermit := by rw [hs0]
    have hmotionPermit : s.safety.motionPermit = s0.safety.motionPermit := by rw [hs0]
    have hlidClosed : s.safety.lidClosed = s0.safety.lidClosed := by rw [hs0]
    have hrun : s.run = s0.run := by rw [hs0]
    have hguarded : s.HeaterGuarded → s0.HeaterGuarded := by rw [hs0]; exact fun h => h
    have hsound : s.RunSound → s0.RunSound := by rw [hs0]; exact fun h => h
    have hactive : s.stepActive = s0.stepActive := by rw [hs0]; rfl
    have hreexamined {u : State} (v : Option NoticeValue)
        (h : s0.reexamined u (s0.noticesAfter .permitChange s0.runIndex v)) :
        s.reexamined u (s.noticesAfter .permitChange s.runIndex v) :=
      State.reexamined_of_same hrun (by rw [hs0]) (by rw [hs0]) h
    have hnow : max s.now s.safety.samplerDue = s0.now := by rw [hs0]
    have hframe : s0.KeptByHandover s ∧ s0.thermal = s.thermal ∧ s0.weigh = s.weigh ∧ s0.blade = s.blade ∧ s0.aux = s.aux := by
      simp [hs0]
    rw [hstep, hpermit, hmotionPermit, hlidClosed, hactive]
    simp only [hrun] at hreexamined ⊢
    refine ⟨_, rfl, ?_, ?_, fun hheat hmotion hlid => ?_,
      fun hoff hs => State.sampleLines_cut (hguarded hs) (hoff.imp And.right And.right),
      fun hoff => State.sampleLines_still hoff,
      fun hlid hoff hactive hs => State.sampleLines_lid (hsound hs) hactive hlid hoff,
      fun hheat hmotion hlid => hreexamined _ (State.sampleLines_heat hheat (not_not.mpr hmotion) (not_not.mpr hlid)),
      fun hheat hmotion hlid => hreexamined _ (State.sampleLines_motion (not_not.mpr hheat) hmotion (not_not.mpr hlid)),
      fun hheat hmotion hlid => hreexamined _
        (State.sampleLines_lidChange (not_not.mpr hheat) (not_not.mpr hmotion) hlid),
      fun hin hchange => ⟨State.sampleLines_follows hin ?_, State.sampleLines_run hin _ _ _⟩,
      fun hin hmanual => State.sampleLines_run_at_rest hin hmanual _ _ _, ?_, State.eq_of_blocks (by simp [State.sampleLines, hs0])⟩
    · simpa [State.sampleLines] using hnow.symm
    · rw [State.sampleLines_safety, hs0]
    · rw [State.sampleLines_of_same (not_not.mpr hheat) (not_not.mpr hmotion) (not_not.mpr hlid),
        State.sampleLines_safety, hs0]
    · by_contra hnone
      obtain ⟨hheat, hnone⟩ := not_or.mp hnone
      obtain ⟨hmotion, hlid⟩ := not_or.mp hnone
      exact hchange ⟨not_not.mp hheat, not_not.mp hmotion, not_not.mp hlid⟩
    · exact State.handoverFrame_of_kept (by simp [hframe])

end Sys2Proof.Machine
end

section
/-! SUPPORT. The warm reset: what the blade, the lid lock and the vent fan take from it (R117, R118, R135, R193, R197). -/

namespace Sys2Proof.Machine

/-- A blade without level that stands has no ramp, no settle and no stall timer (R121, R123, R131). -/
theorem State.updateBlade_at_rest {s : State} (hlevel : s.commandedLevel = 0) (heffective : s.blade.effective = 0) :
    s.updateBlade.blade = { s.blade with commanded := 0, ramp := none, settle := none, stallTimer := none } := by
  obtain ⟨hcommanded, -, hstall, hruns⟩ := State.updateBlade_follows s
  rw [State.updateBlade_commandedLevel, hlevel] at hcommanded
  have heff : s.updateBlade.blade.effective = 0 := by simpa using heffective
  have htarget : s.updateBlade.targetLevel = 0 := by simp [State.targetLevel, hlevel]
  have hnone : ¬ (s.updateBlade.blade.ramp.isSome = true ∨ s.updateBlade.blade.settle.isSome = true) :=
    fun h => (hruns h).2 (htarget.trans heff.symm)
  have hquiet : s.updateBlade.blade.stallTimer = none := by
    simpa [Blade.stallCondition, hlevel] using hstall
  simp only [not_or, Bool.not_eq_true, Option.isSome_eq_false_iff, Option.isNone_iff_eq_none] at hnone
  have h := Blade.eq_of_following (b := s.blade) (c := s.updateBlade.blade) (by simp)
  rw [hcommanded, hnone.1, hnone.2, hquiet] at h
  exact h

/-- Over a hot or unknown base the lid lock is engaged (R193). -/
theorem State.updateBlade_locks {s : State} (h : s.thermal.hotBase = true) : s.updateBlade.aux =
    { s.aux with lockEngaged := true, lockedAt := if s.aux.lockEngaged then s.aux.lockedAt else s.now } := by
  have hlock : s.updateCommanded.lockCondition = true := by simp [State.lockCondition, h]
  have haux : s.updateBlade.aux = s.updateCommanded.updateLock.aux := rfl
  rw [haux]
  unfold State.updateLock
  by_cases hengaged : s.aux.lockEngaged = true
  · simp only [hlock, State.updateCommanded_frame, hengaged]
    cases haux : s.aux
    simp_all
  · simp [hlock, hengaged]

/-- The zero set point at a standing blade (R120, R124). -/
theorem State.handStir_zero_at_rest {s : State} (heffective : s.blade.effective = 0) :
    (s.handStir .zero).blade = { s.blade with
      stir := .zero, intervalOn := false, patternTimer := none, halfTimer := none, wantDirection := none
      commanded := 0, ramp := none, settle := none, stallTimer := none } := by
  have hdirection : s.handStir .zero = State.updateBlade { s with blade := { s.blade with
      stir := .zero, intervalOn := false, patternTimer := none, halfTimer := none, wantDirection := none } } := by
    simp [State.handStir, State.takeDirection, heffective, StirPoint.zero, Pattern.onTime]
  rw [hdirection]
  exact State.updateBlade_at_rest (State.commandedLevel_of_asked (by simp [Blade.asked, StirPoint.zero])) heffective

theorem State.endRest_of_rested {s : State}
    (h : (s.blade.inverter = .braking ∨ (s.blade.inverter = .off ∧ ¬ s.mainsLost = true)) ∧ s.rested = true) :
    s.endRest = State.updateBlade { s with blade := { s.blade with inverter := .driving } } := if_pos h

theorem State.endRest_of_not_rested {s : State}
    (h : ¬ ((s.blade.inverter = .braking ∨ (s.blade.inverter = .off ∧ ¬ s.mainsLost = true)) ∧ s.rested = true)) :
    s.endRest = s := if_neg h

/-- A blade that stands braked without level drives again where it is at rest (R127). -/
theorem State.endRest_at_rest {s : State} (hasked : s.blade.asked = 0) (hcommanded : s.blade.commanded = 0)
    (heffective : s.blade.effective = 0) (hquiet : s.blade.ramp = none ∧ s.blade.settle = none ∧ s.blade.stallTimer = none)
    (hinverter : s.blade.inverter = if s.mainsLost then .off else .braking) :
    s.endRest.blade = { s.blade with
      inverter := if s.mainsLost then .off else if s.rested then .driving else .braking } := by
  obtain ⟨hramp, hsettle, hstall⟩ := hquiet
  cases hlost : s.mainsLost
  · replace hinverter : s.blade.inverter = .braking := by simpa [hlost] using hinverter
    by_cases hrested : s.rested = true
    · rw [State.endRest_of_rested ⟨.inl hinverter, hrested⟩, State.updateBlade_at_rest
        (s := { s with blade := { s.blade with inverter := .driving } }) (State.commandedLevel_of_asked hasked) heffective]
      simp [hrested, hcommanded, hramp, hsettle, hstall]
    · rw [State.endRest_of_not_rested fun h => hrested h.2]
      simp only [hrested, Bool.false_eq_true, if_false]
      rw [← hinverter]
  · replace hinverter : s.blade.inverter = .off := by simpa [hlost] using hinverter
    rw [State.endRest_of_not_rested fun h => by simp [hinverter, hlost] at h]
    simp only [if_true]
    rw [← hinverter]

/-- A brake at a blade without level: at rest it is released at once (R127). -/
theorem State.brake_at_rest {s : State} (hasked : s.blade.asked = 0) (hcommanded : s.blade.commanded = 0) :
    s.brake.blade = { s.blade with
      effective := 0, ramp := none, settle := none, stallTimer := none
      inverter := if s.mainsLost then .off else if s.rested then .driving else .braking } := by
  have hstall : State.brake s = State.endRest { s with blade := { s.blade with
      effective := 0, ramp := none, settle := none, stallTimer := none
      inverter := if s.mainsLost then .off else .braking } } := by
    simp [State.brake, State.updateStall, Blade.stallCondition]
  rw [hstall]
  exact State.endRest_at_rest hasked hcommanded rfl ⟨rfl, rfl, rfl⟩ rfl

/-- The vent fan runs out where it was on (R117). -/
theorem State.updateVent_dark {s : State} (h : s.thermal.grant = 0) : s.updateVent = { s with
    thermal := { s.thermal with
      vent := if s.thermal.vent = .on then .runout (s.now + 90000000) else s.thermal.vent } } := by
  have hfan : s.thermal.fanCondition = false := by simp [Thermal.fanCondition, h]
  unfold State.updateVent
  simp only [hfan]
  cases s.thermal.vent <;> rfl

/-- A standing blade is handed the zero set point and braked (R120, R127). -/
theorem State.zeroed_blade {s : State} (heffective : s.blade.effective = 0) : (s.handStir .zero).brake.blade = { s.blade with
    stir := .zero, intervalOn := false, patternTimer := none, halfTimer := none, wantDirection := none
    commanded := 0, effective := 0, ramp := none, settle := none, stallTimer := none
    inverter := if s.mainsLost then .off else if s.rested then .driving else .braking } := by
  have hzero := State.handStir_zero_at_rest heffective
  have hlost : (s.handStir .zero).mainsLost = s.mainsLost := by simp [State.mainsLost]
  have hrested : (s.handStir .zero).rested = s.rested := by simp [State.rested]
  rw [State.brake_at_rest (by rw [hzero]; rfl) (by rw [hzero]), hzero, hlost, hrested]

theorem State.endRest_aux {s : State} (h : s.thermal.hotBase = true) (hengaged : s.aux.lockEngaged = true) :
    s.endRest.aux = s.aux := by
  unfold State.endRest
  split_ifs
  · refine (State.updateBlade_locks (s := { s with blade := { s.blade with inverter := .driving } }) h).trans ?_
    simp only [hengaged, if_true]
    rw [← hengaged]
  · rfl

/-- It leaves the lid lock engaged over a hot or unknown base (R193). -/
theorem State.zeroed_aux {s : State} (h : s.thermal.hotBase = true) : (s.handStir .zero).brake.aux =
    { s.aux with lockEngaged := true, lockedAt := if s.aux.lockEngaged then s.aux.lockedAt else s.now } := by
  have hzero : (s.handStir .zero).aux =
      { s.aux with lockEngaged := true, lockedAt := if s.aux.lockEngaged then s.aux.lockedAt else s.now } := by
    rw [State.handStir, State.updateBlade_locks (by simpa using h)]
    simp
  rw [← hzero, State.brake, State.endRest_aux (by simpa using h) (by simp [hzero])]
  simp

/-- The blocks before the fan, the blade and the lid lock follow (R20 to R200). -/
def State.warmed (s : State) : State :=
  { s with
    program := s.program.warm, run := { Run.reset with state := s.restState }, weigh := s.weigh.warm, log := .cleared
    thermal := { s.thermal.warm with
      vent := if s.thermal.vent = .on then .runout (s.now + 90000000) else s.thermal.vent }
    blade := s.blade.warm, budget := s.budget.warm, converter := .reset, safety := s.safety.warm
    notices := s.notices.map NoticeList.warm, bus := s.bus.warm, aux := s.aux.warm }

theorem State.warmReset_eq (s : State) : s.warmReset = (s.warmed.handStir .zero).brake := by
  unfold State.warmReset
  dsimp only
  rw [State.updateVent_dark rfl]
  rfl

/-- The blade after a warm reset (R127, R135). -/
theorem State.warmReset_blade (s : State) : s.warmReset.blade = { s.blade with
    stir := .zero, intervalOn := false, patternTimer := none, halfTimer := none, wantDirection := none
    commanded := 0, effective := 0, ramp := none, settle := none, stallTimer := none, powerSum := 0
    powerCount := 0, pmot := 0
    inverter := if s.thermal.mains = .lost then .off
      else if s.blade.lastPulse.all fun l => decide (l + 1500000 ≤ s.now) then .driving else .braking } := by
  rw [State.warmReset_eq, State.zeroed_blade rfl]
  simp only [State.mainsLost, decide_eq_true_eq]
  rfl

/-- The auxiliary lines after a warm reset (R197). -/
theorem State.warmReset_aux (s : State) : s.warmReset.aux = { s.aux with
    buzzer := none, lamp := false, lockEngaged := true
    lockedAt := if s.aux.lockEngaged then s.aux.lockedAt else s.now } := by
  rw [State.warmReset_eq, State.zeroed_aux rfl]
  rfl

/-- The heater and the weighing unit after a warm reset (R77, R118). -/
theorem State.warmReset_thermal (s : State) : s.warmReset.thermal = s.warmed.thermal := by
  rw [State.warmReset_eq]
  simp

theorem State.warmReset_weigh (s : State) : s.warmReset.weigh = { s.weigh.warm with kind := s.warmReset.weigh.kind } := by
  rw [State.warmReset_eq]
  exact Weigh.eq_of_kind (v := s.weigh.warm) (by simp [State.warmed])

/-- The blocks that nothing follows (R20, R50, R93, R142, R150, R165, R176, R188). -/
theorem State.warmReset_blocks (s : State) : s.warmReset.program = s.program.warm ∧
    s.warmReset.run = { Run.reset with state := s.restState } ∧ s.warmReset.log = .cleared ∧
    s.warmReset.converter = .reset ∧ s.warmReset.budget = s.budget.warm ∧ s.warmReset.safety = s.safety.warm ∧
    s.warmReset.notices = s.notices.map NoticeList.warm ∧ s.warmReset.bus = s.bus.warm ∧ s.warmReset.now = s.now ∧
    s.warmReset.pending = s.pending := by
  rw [State.warmReset_eq]
  simp [State.warmed]

/-- Settles O38: each block's warm-reset values, then fan, blade and lid lock. -/
theorem warmResetKeepsTheSettings : Obligations.WarmResetKeepsTheSettings := by
  intro p s hreach
  dsimp only
  rw [exec_of_reaches (i := .warmReset p) rfl rfl hreach]
  generalize s.taken (.warmReset p) = s1
  simp only [warmResetRule]
  have hblade := s1.warmReset_blade
  have haux := s1.warmReset_aux
  have hthermal := s1.warmReset_thermal
  have hweigh := s1.warmReset_weigh
  have hblocks := s1.warmReset_blocks
  generalize s1.warmReset = u at *
  obtain ⟨hprogram, hrun, hlog, hconverter, hbudget, hsafety, hnotices, hbus, hnow, hpending⟩ := hblocks
  refine ⟨_, rfl, hprogram, hrun, hlog, hconverter, hweigh, hthermal, hblade, hbudget, hsafety, hnotices, ?_, haux, hnow,
    hpending⟩
  simp [hbus, hrun, Bus.warm, State.restState]

end Sys2Proof.Machine
end

section
/-! SUPPORT. The ingredient log's decision, case by case (R80, R82 to R90). -/

namespace Sys2Proof.Machine

/-- Neither a jump nor a drift (R83, R84). -/
theorem LogRefs.entryKind_of_within {r : LogRefs} {c : LogContext} {m : Int}
    (hjump : ¬ ((c.threshold : Int) ≤ m - r.last ∨ (c.threshold : Int) ≤ r.last - m))
    (hdrift : ¬ ((c.threshold : Int) ≤ m - r.baseline ∨ (c.threshold : Int) ≤ r.baseline - m)) :
    r.entryKind c m = none := by
  obtain ⟨hup, hdown⟩ := not_or.mp hjump
  obtain ⟨hgain, hloss⟩ := not_or.mp hdrift
  simp [LogRefs.entryKind, hup, hdown, hgain, hloss]

/-- The kind of a jump or a drift past a threshold above 0 (R83, R84). -/
theorem LogRefs.entryKind_of_past {r : LogRefs} {c : LogContext} {m : Int} (_ : 0 < (c.threshold : Int))
    (h : ((c.threshold : Int) ≤ m - r.last ∨ (c.threshold : Int) ≤ r.last - m) ∨
      (c.threshold : Int) ≤ m - r.baseline ∨ (c.threshold : Int) ≤ r.baseline - m) :
    r.entryKind c m = some (if (c.threshold : Int) ≤ m - r.last then .added
      else if (c.threshold : Int) ≤ r.last - m then .removed
      else if r.baseline < m then .driftGain else if c.hotStep then .evaporated else .driftLoss) := by
  unfold LogRefs.entryKind
  dsimp only
  by_cases hup : (c.threshold : Int) ≤ m - r.last
  · simp only [if_pos hup]
  by_cases hdown : (c.threshold : Int) ≤ r.last - m
  · simp only [if_neg hup, if_pos hdown]
  have hdrift := h.resolve_left (not_or.mpr ⟨hup, hdown⟩)
  by_cases hgain : (c.threshold : Int) ≤ m - r.baseline
  · simp only [if_neg hup, if_neg hdown, if_pos hgain, if_pos (show r.baseline < m by omega)]
  · have hloss := hdrift.resolve_left hgain
    simp only [if_neg hup, if_neg hdown, if_neg hgain, if_pos hloss, if_neg (show ¬ r.baseline < m by omega)]

/-- The log of a part, taken while it is open (R80). -/
theorem State.logSettled_of_open {s : State} (h : s.log.isOpen = true) (m : Int) : s.logSettled m =
    match (s.log.take s.logContext m).2 with
    | some e => State.send { s with log := (s.log.take s.logContext m).1 } .logEntry (some e.step) (some (.mass e.delta))
    | none => { s with log := (s.log.take s.logContext m).1 } := by
  unfold State.logSettled
  exact (if_pos h).trans rfl

/-- The oldest of 96 records gives way (R88). -/
theorem makeRoom_eq (l : List Entry) : makeRoom l =
    (if 96 ≤ l.length then l.tail else l, if 96 ≤ l.length then (l.head?.map Entry.delta).getD 0 else 0) := by
  cases l with
  | nil => rfl
  | cons e rest =>
    by_cases h : 96 ≤ (e :: rest).length
    · rw [if_pos h, if_pos h]
      exact if_pos h
    · rw [if_neg h, if_neg h]
      exact if_neg h

/-- Settles O29: a closed log, the first value, a value within the threshold, and an entry. -/
theorem settledValuesMakeTheLog : Obligations.SettledValuesMakeTheLog := by
  refine fun s m => ⟨fun hclosed => ?_, fun hopen hrefs => ?_, fun r hopen hrefs => ⟨fun hjump hdrift => ?_, fun hx hpast => ⟨fun hfull => ?_, fun hroom => ?_⟩⟩⟩
  · simp [State.logSettled, hclosed]
  · simp only [State.logSettled_of_open hopen, IngredientLog.take, hrefs]
  · have hkind : r.entryKind s.logContext m = none := LogRefs.entryKind_of_within hjump hdrift
    simp only [State.logSettled_of_open hopen, IngredientLog.take, hrefs, hkind]
  · have hkind := LogRefs.entryKind_of_past (c := s.logContext) hx hpast
    simp only [State.logSettled_of_open hopen, IngredientLog.take, hrefs, hkind, hfull, if_true]
  · have hkind := LogRefs.entryKind_of_past (c := s.logContext) hx hpast
    simp only [State.logSettled_of_open hopen, IngredientLog.take, hrefs, hkind, hroom, Bool.false_eq_true, if_false,
      IngredientLog.join, makeRoom_eq]
    rfl


/-! ## The step's own tests: NEAR_TARGET and WEIGHT_MET (R73, R74, R75) -/

theorem State.enterStep_resultAt {s : State} {i : Nat} (h : i ≠ s.run.cursor) :
    s.enterStep.program.results[i]? = s.program.results[i]? := by
  cases hr : s.record with
  | none => simp [State.enterStep, hr]
  | some r =>
    rw [State.enterStep_eq hr]
    simp [Program.editResult_elsewhere h]

theorem State.arrive_resultAt {s : State} {i : Nat} (h : i ≠ s.run.cursor) :
    s.arrive.program.results[i]? = s.program.results[i]? := by
  by_cases hmark : s.marked s.run.cursor = true
  · rw [State.arrive_of_marked hmark]
    simp
  · rw [State.arrive_of_unmarked (by simpa using hmark), State.enterStep_resultAt h]

theorem State.proceed_resultAt {s : State} {i : Nat} (h : i ≠ s.run.cursor) :
    s.proceed.program.results[i]? = s.program.results[i]? := by
  unfold State.proceed
  split_ifs
  · simp
  · exact State.arrive_resultAt h

/-- The overshoot mark joins the result at the cursor (R75). -/
theorem State.checkOvershoot_resultAt {s : State} {r : StepRecord} {w : WeighPart} {x : Int} {old : StepResult}
    (hr : s.record = some r) (hw : r.weigh = some w) (hx : s.weigh.settled = some x)
    (hold : s.program.results[s.run.cursor]? = some old) : s.checkOvershoot.program.results[s.run.cursor]? =
      some { old with
        overshoot := old.overshoot || decide ((w.target : Int) + w.tolerance < min (x - s.weigh.tare) 200000) } := by
  have hnet : s.weigh.settledNet = some (min (x - s.weigh.tare) 200000) := by
    simp [Weigh.settledNet, hx, limitNet, Config.grossMax]
  have hcursor : s.run.cursor < s.program.results.length := (List.getElem?_eq_some_iff.mp hold).1
  unfold State.checkOvershoot
  simp only [hr, Option.bind_some, hw, hnet]
  by_cases hover : (w.target : Int) + w.tolerance < min (x - s.weigh.tare) 200000
  · simp [hover, Program.editResult_at hcursor, List.getD, hold]
  · simp [hover, hold]

/-- The result that an exit leaves (R31, R75). -/
theorem State.exitStep_resultAt {s : State} {r : StepRecord} {w : WeighPart} {x : Int} {old : StepResult}
    (reason : EndReason) (hr : s.record = some r) (hw : r.weigh = some w) (hx : s.weigh.settled = some x)
    (hold : s.program.results[s.run.cursor]? = some old) : (s.exitStep reason).program.results[s.run.cursor]? =
      some { old with
        outcome := .completed, reason := some reason, netAtExit := some s.weigh.net
        overshoot := old.overshoot || decide ((w.target : Int) + w.tolerance < min (x - s.weigh.tare) 200000) } := by
  have hcursor : s.run.cursor < s.program.results.length := (List.getElem?_eq_some_iff.mp hold).1
  have hclosed : (s.closeResult .completed (some reason)).program.results[s.run.cursor]? = some { old with
      outcome := .completed, reason := some reason, netAtExit := some s.weigh.net } := by
    refine (Program.editResult_at hcursor _).trans ?_
    simp [hr, hw, List.getD, hold]
  have hcheck := State.checkOvershoot_resultAt (s := s.closeResult .completed (some reason)) (r := r)
    (by simpa [State.record] using hr) hw hx hclosed
  have hrun : (s.closeResult .completed (some reason)).checkOvershoot.run = s.run := by simp
  unfold State.exitStep
  dsimp only
  generalize (s.closeResult .completed (some reason)).checkOvershoot = u at hcheck hrun ⊢
  rw [State.proceed_resultAt (by rw [State.advance_cursor, State.send_run, hrun]; omega)]
  simpa using hcheck

theorem StepRecord.mem_conditions_weightMet {r : StepRecord} :
    .weightMet ∈ r.conditions ↔ r.weigh.isSome = true := by
  simp only [StepRecord.conditions]
  split_ifs <;> simp_all

theorem State.activeRecord_eq_some {s : State} {r : StepRecord} : s.activeRecord = some r ↔
    s.run.state.inRun = true ∧ s.run.phase = .active ∧ s.record = some r := by
  simp [State.activeRecord, State.stepActive, and_assoc]

/-- A condition that latches and ends the step (R27, R30). -/
theorem State.latch_of_ending {s : State} {c : Condition} {r : StepRecord} {reason : EndReason}
    (hactive : s.activeRecord = some r) (hc : c ∈ r.conditions) (hnew : c ∉ s.run.met) (hstate : s.run.state = .running)
    (hends : r.ends (s.run.met ++ [c]) = some reason) : s.latch c = State.exitStep { s with run := { s.run with
      met := s.run.met ++ [c], reached := if c = .tempReached then some s.run.active else s.run.reached } } reason := by
  obtain ⟨-, hphase, hr⟩ := State.activeRecord_eq_some.mp hactive
  rw [State.latch_of_new hactive hc hnew]
  exact State.decideEnd_of_ends (r := r) hstate hphase hr hends

/-- A condition that latches without ending the step (R27, R30). -/
theorem State.latch_of_staying {s : State} {c : Condition} {r : StepRecord} (hactive : s.activeRecord = some r)
    (hc : c ∈ r.conditions) (hnew : c ∉ s.run.met)
    (hstays : s.run.state = .held ∨ r.ends (s.run.met ++ [c]) = none) : s.latch c = { s with run := { s.run with
      met := s.run.met ++ [c], reached := if c = .tempReached then some s.run.active else s.run.reached } } := by
  obtain ⟨-, -, hr⟩ := State.activeRecord_eq_some.mp hactive
  rw [State.latch_of_new hactive hc hnew]
  rcases hstays with hheld | hends
  · exact State.decideEnd_of_held (by simp [hheld])
  · exact State.decideEnd_of_continues (r := r) hr hends

/-- Settles O30: the NEAR_TARGET test, then the WEIGHT_MET test by its premises and by what the end decision says. -/
theorem weighStepWatchesItsTarget : Obligations.WeighStepWatchesItsTarget := by
  intro s r w hactive hw
  have hnear : s.activeRecord.bind StepRecord.weigh = some w := by simp [hactive, hw]
  refine ⟨fun g => ?_, fun hquiet => ?_, fun x hx => ?_⟩
  · unfold State.testNear
    simp only [hnear]
    by_cases hnear : s.weigh.nearArmed = true ∧ s.weigh.tareTimer = none ∧
        ((w.target * 9 / 10 : Nat) : Int) ≤ min (g - s.weigh.tare) 200000
    · rw [if_pos hnear, if_pos (by simpa [Weigh.tarePending, limitNet, Config.grossMax, nearThreshold, and_assoc] using hnear)]
      rfl
    · rw [if_neg hnear, if_neg (by simpa [Weigh.tarePending, limitNet, Config.grossMax, nearThreshold, and_assoc] using hnear)]
  · unfold State.testWeight
    rcases hquiet with hnone | htare | hmet
    · simp [Weigh.settledNet, hnone]
    · simp only [hnear, Weigh.tarePending, htare]
      cases s.weigh.settledNet <;> rfl
    · simp only [hnear, State.latch_of_met hmet, ite_self]
      cases s.weigh.settledNet <;> rfl
  · dsimp only
    have htest : s.testWeight = if !s.weigh.tarePending && decide ((w.target : Int) - w.tolerance ≤
        min (x - s.weigh.tare) 200000) then s.latch .weightMet else s := by
      unfold State.testWeight
      have hnet : s.weigh.settledNet = some (min (x - s.weigh.tare) 200000) := by
        simp [Weigh.settledNet, show s.weigh.settled = some x from hx, limitNet, Config.grossMax]
      simp only [hnear, hnet]
    refine ⟨fun hless => ?_, fun htare hnet hnew => ⟨fun hstays => ?_, fun reason hends old hold hstate => ?_⟩⟩
    · rw [htest, if_neg (by simp; omega)]
    · rw [htest, if_pos (by simp [Weigh.tarePending, htare]; omega)]
      exact State.latch_of_staying hactive (StepRecord.mem_conditions_weightMet.mpr (by simp [hw])) hnew hstays
    · rw [htest, if_pos (by simp [Weigh.tarePending, htare]; omega)]
      rw [State.latch_of_ending hactive (StepRecord.mem_conditions_weightMet.mpr (by simp [hw])) hnew hstate hends]
      have hr : s.record = some r := (State.activeRecord_eq_some.mp hactive).2.2
      have hresult := State.exitStep_resultAt (s := { s with run := { s.run with met := s.run.met ++ [.weightMet] } })
        reason hr hw hx hold
      have hplace := State.exitStep_place (s := { s with run := { s.run with met := s.run.met ++ [.weightMet] } })
        reason (List.getElem?_eq_some_iff.mp hold).1
      exact ⟨hplace.2, by simp, hresult, by simp, by simp, by simp, by simp, by simp⟩

end Sys2Proof.Machine
end

section
/-! SUPPORT. The completed sample, stage by stage (R51, R52, R59 to R66, R69, R91). -/

namespace Sys2Proof.Machine

/-- The weighing unit after stages 1 to 4 of a sample (R61 to R64, R66, R69). -/
theorem Weigh.sampled_eq (w : Weigh) (corrected : Int) :
    ((w.join corrected).takeTare).report (clampInt Config.grossMin Config.grossMax corrected) =
      let g := max (-20000) (min 200000 corrected)
      let history := pushLast 3 (if w.historyKind = w.sampleKind then w.history else []) g
      let settled := stableMedian w.policy w.sampleKind history
      { w with
        range := if corrected < -20000 then .underrange else if 200000 < corrected then .overrange else .ok
        recent := pushLast 3 w.recent g
        history := history
        historyKind := w.sampleKind
        lastKind := some w.sampleKind
        settled := settled
        reported := settled.getD g
        tare := if w.tareTimer.isSome then settled.getD w.tare else w.tare
        tareTimer := if settled.isSome then none else w.tareTimer
        nearArmed := w.nearArmed || (settled.isSome && w.tareTimer.isSome) } := by
  have hclamp : clampInt Config.grossMin Config.grossMax corrected = max (-20000) (min 200000 corrected) :=
    clampInt_eq_max_min (by decide) corrected
  have hrange : (if corrected < -20000 then RangeFlag.underrange else if 200000 < corrected then .overrange else .ok) =
      rangeOf corrected := rfl
  simp only [Weigh.join, hclamp, hrange]
  generalize max (-20000) (min 200000 corrected) = g
  generalize stableMedian w.policy w.sampleKind _ = settled
  cases settled <;> cases w.tareTimer <;> simp [Weigh.takeTare, Weigh.report]

theorem IngredientLog.eq_of_kept {l k : IngredientLog} (h : l.Kept k) : l = { k with isOpen := l.isOpen } := by
  obtain ⟨⟩ := l
  simp_all

/-- A settled value reaches the log alone: it depends on nothing else that a sample moves (R86, R91). -/
theorem State.logSettled_log_congr {s t : State} (hlog : t.log = s.log) (hpolicy : t.weigh.policy = s.weigh.policy)
    (hrun : t.run = s.run) (hprogram : t.program = s.program) (hthermal : t.thermal = s.thermal) (m : Int) :
    (t.logSettled m).log = (s.logSettled m).log := by
  have hcontext : t.logContext = s.logContext := by
    simp [State.logContext, State.hotStep, State.activeRecord, State.stepActive, State.record, hpolicy, hrun, hprogram,
      hthermal]
  unfold State.logSettled
  rw [hlog, hcontext]
  dsimp only
  split_ifs
  · cases (s.log.take s.logContext m).2 <;> rfl
  · exact hlog

theorem State.serveLog_of_settled {s : State} {m : Int} (h : s.weigh.settled = some m) : s.serveLog = s.logSettled m := by
  simp [State.serveLog, h]

theorem State.serveLog_of_unsettled {s : State} (h : s.weigh.settled = none) : s.serveLog = s := by
  simp [State.serveLog, h]

/-- At rest with a closed log the log and the tests of a sample do nothing (R73, R74, R80). -/
theorem State.serveLog_at_rest {s : State} (hin : s.run.state.inRun = false) (hclosed : s.log.isOpen = false) (g : Int) :
    (s.serveLog.testNear g).testWeight = s := by
  have hserved : s.serveLog = s := by
    cases hsettled : s.weigh.settled with
    | none => exact State.serveLog_of_unsettled hsettled
    | some m => rw [State.serveLog_of_settled hsettled, State.logSettled, if_neg (by simp [hclosed])]
  have hnone : s.activeRecord = none := by simp [State.activeRecord, State.stepActive, hin]
  simp [hserved, State.testNear, State.testWeight, hnone]

/-- What the log and the tests of a sample leave (R65). -/
theorem State.serveLog_leaves (s : State) (g : Int) :
    ((s.serveLog.testNear g).testWeight).weigh = { s.weigh with
      kind := ((s.serveLog.testNear g).testWeight).weigh.kind
      tareTimer := ((s.serveLog.testNear g).testWeight).weigh.tareTimer
      nearArmed := ((s.serveLog.testNear g).testWeight).weigh.nearArmed } ∧
    (s.weigh.settled = none → ((s.serveLog.testNear g).testWeight).log =
      { s.log with isOpen := ((s.serveLog.testNear g).testWeight).log.isOpen }) ∧
    ∀ m ∈ s.weigh.settled, ((s.serveLog.testNear g).testWeight).log =
      { (s.logSettled m).log with isOpen := ((s.serveLog.testNear g).testWeight).log.isOpen } := by
  refine ⟨Weigh.eq_of_kept (by simp) rfl rfl, fun hsettled => ?_, fun m hsettled => ?_⟩
  · rw [State.serveLog_of_unsettled hsettled]
    exact IngredientLog.eq_of_kept (by simp)
  · rw [State.serveLog_of_settled hsettled]
    exact IngredientLog.eq_of_kept (by simp)

/-- A sample's own log and tests, on the weighing unit that its masses have given, as the statement writes them. -/
theorem State.sampled_leaves (s : State) (moment : Nat) (c : Converter) (w : Weigh) (g : Int)
    (hpolicy : w.policy = s.weigh.policy) :
    let u : State := { s with now := moment, converter := c, weigh := w }
    let t := ((u.serveLog.testNear g).testWeight).arbitrate
    t = (((match w.settled with | some m => u.logSettled m | none => u).testNear g).testWeight).arbitrate ∧
    (s.run.state.inRun = false → s.log.isOpen = false →
      t = { s with now := t.now, converter := t.converter, weigh := w }) ∧
    t.weigh = { w with kind := t.weigh.kind, tareTimer := t.weigh.tareTimer, nearArmed := t.weigh.nearArmed } ∧
    (w.settled = none → t.log = { s.log with isOpen := t.log.isOpen }) ∧
    ∀ m ∈ w.settled, t.log = { (s.logSettled m).log with isOpen := t.log.isOpen } := by
  obtain ⟨hweigh, hquiet, hlog⟩ := State.serveLog_leaves { s with now := moment, converter := c, weigh := w } g
  refine ⟨rfl, fun hin hclosed => ?_, hweigh, hquiet, fun m hm => ?_⟩
  · rw [State.serveLog_at_rest (s := { s with now := moment, converter := c, weigh := w }) hin hclosed]
    rfl
  · have hsame := State.logSettled_log_congr (s := s) (t := { s with now := moment, converter := c, weigh := w })
      rfl hpolicy rfl rfl rfl m
    rw [← hsame]
    exact hlog m hm

/-- Settles O28: the saturated sample, and the sample processed stage by stage. -/
theorem burstGivesOneSample : Obligations.BurstGivesOneSample := by
  intro codes began s hcodes hwork
  have hend : s.converter.burstEnd codes.length = some (began + 3000 * (4 * codes.length)) := by
    simp [Converter.burstEnd, hwork, Config.ms]
  simp only [exec, execScaleBurstComplete, hend, State.reach_eq]
  by_cases hsaturated : (codes.any fun c => saturated c.1 || saturated c.2) = true
  · simp only [if_pos hsaturated]
    exact ⟨_, rfl, rfl, rfl, rfl, rfl, rfl, rfl⟩
  simp only [if_neg hsaturated]
  unfold State.validSample
  dsimp only
  rw [Weigh.sampled_eq]
  refine ⟨_, rfl, by simp, by simp, by simp, by simp, by simp, ?_⟩
  have hcell : cellTemp s.weigh.cal s.thermal.cell = match s.thermal.cell with
      | .valid x => x
      | .none | .invalid => s.weigh.cal.tcal := by
    cases s.thermal.cell <;> rfl
  rw [burstValue, grossOf, correctedGross, hcell, clampInt_eq_max_min (by decide)]
  exact State.sampled_leaves s _ _ _ _ rfl

end Sys2Proof.Machine
end

section
/-! SUPPORT. The shared converter: what the arbiter begins, what is recalled, and the requests of timers and triggers
(R51, R53, R55, R94, R133, R143 to R147, R196). -/

namespace Sys2Proof.Machine

theorem Converter.conversionEnd_of_other {c : Converter} {channel : Channel}
    (h : ∀ live ends, c.work ≠ .single channel live ends) : c.conversionEnd channel = none := by
  unfold Converter.conversionEnd
  cases hwork : c.work with
  | free => rfl
  | burst n began => rfl
  | single ch live ends =>
    refine if_neg fun hch => h live ends ?_
    rw [hwork, hch]

/-- The end of the conversion in progress (R145, R148). -/
theorem exec_conversionComplete {channel : Channel} {live : Bool} {ends : Nat} {code : BitVec 12} {s : State}
    (h : s.converter.work = .single channel live ends) : exec (.conversionComplete channel code) s = .next
      (State.deliver { s with now := max s.now ends, converter := { s.converter with work := .free } } channel live
        code.toNat).arbitrate := by
  simp [exec, execConversionComplete, Converter.conversionEnd, h, State.reach_eq]

/-- The second of two requests of one moment finds the first's choice recalled: both wait when the arbiter chooses
(R144). -/
theorem Converter.recall_arrive {c : Converter} {now : Nat} (h : c.work = .free) :
    (c.arrive now).recall now = { c with chosenAt := none } := by
  rw [Converter.arrive_of_free h, Converter.recall_of_together rfl]
  obtain ⟨scale, mains, mainsLive, base, element, cell, motorI, work, chosenAt⟩ := c
  obtain rfl : work = .free := h
  cases scale with
  | some n => rfl
  | none =>
    cases mains
    case true => rfl
    cases base
    case true => rfl
    cases element
    case true => rfl
    cases cell
    case true => rfl
    cases motorI <;> rfl

/-- A recall at a free converter leaves all but the moment of the last choice. -/
theorem Converter.recall_of_free {c : Converter} (h : c.work = .free) (now : Nat) :
    c.recall now = c ∨ c.recall now = { c with chosenAt := none } := by
  obtain ⟨-, hsame⟩ | ⟨htogether, -, -⟩ := c.recall_cases now
  · exact .inl hsame
  · refine .inr ?_
    rw [Converter.recall_of_together htogether]
    obtain ⟨scale, mains, mainsLive, base, element, cell, motorI, work, chosenAt⟩ := c
    obtain rfl : work = .free := h
    rfl

/-- Requests of one moment at a free converter are served alike in either order (R144). -/
theorem Converter.requests_commute {c : Converter} (h : c.work = .free) (now : Nat) :
    Converter.arrive { Converter.recall (Converter.arrive
        { c.recall now with base := true, element := true, cell := true } now) now with motorI := true } now =
      Converter.arrive { Converter.recall (Converter.arrive { c.recall now with motorI := true } now) now with
        base := true, element := true, cell := true } now := by
  have hwork : (c.recall now).work = .free := by
    rcases Converter.recall_of_free h now with hsame | hsame <;> rw [hsame] <;> exact h
  rw [Converter.recall_arrive (c := { c.recall now with base := true, element := true, cell := true }) hwork,
    Converter.recall_arrive (c := { c.recall now with motorI := true }) hwork]

/-- The thermistor timer (R94, R146). -/
theorem exec_thermistorTimer (s : State) : exec .thermistorTimer s = .next { s with
    now := max s.now s.thermal.timerDue
    thermal := { s.thermal with timerDue := s.thermal.timerDue + 300000 }
    converter := Converter.arrive { s.converter.recall (max s.now s.thermal.timerDue) with
      base := true, element := true, cell := true } (max s.now s.thermal.timerDue) } := rfl

/-- The motor current timer (R133, R146). -/
theorem exec_motorITimer (s : State) : exec .motorITimer s = .next { s with
    now := max s.now s.blade.motorDue
    blade := { s.blade with motorDue := s.blade.motorDue + 150000 }
    converter := Converter.arrive { s.converter.recall (max s.now s.blade.motorDue) with motorI := true }
      (max s.now s.blade.motorDue) } := rfl

/-- A rounded quotient of natural numbers (R133). -/
theorem roundDiv_toNat (n d : Nat) : (roundDiv (n : Int) d).toNat = (n * 2 + d) / (2 * d) := by
  unfold roundDiv
  rw [if_pos (Int.natCast_nonneg n), Int.toNat_natCast, Int.natAbs_natCast, Nat.mul_comm 2 n]

/-- Settles O48: the choice, the recall, the two timers in either order, and the ends of conversions. -/
theorem converterServesByPriority : Obligations.ConverterServesByPriority := by
  refine ⟨fun c now => ⟨fun hbusy => ?_, fun hfree => ?_⟩, fun c now => ⟨?_, fun htogether => ?_⟩, fun s => ?_, fun s => ?_,
    fun s t1 t2 u1 u2 hfree hmoment => ?_, fun live ends code s hwork => ?_, fun live ends code s hwork => ?_,
    fun channel code s hother => ?_⟩
  · exact ⟨Converter.choose_of_busy hbusy now, Converter.arrive_of_busy hbusy now⟩
  · rw [Converter.choose_of_free hfree, Converter.arrive_of_free hfree]
    obtain ⟨scale, mains, mainsLive, base, element, cell, motorI, work, chosenAt⟩ := c
    cases scale with
    | some n => exact ⟨rfl, rfl⟩
    | none =>
      dsimp only [Converter.begin]
      split_ifs <;> exact ⟨rfl, rfl⟩
  · exact fun h => Converter.recall_of_earlier h
  · rw [Converter.recall_of_together htogether]
    unfold Converter.unbegin
    refine ⟨fun hfree => ?_, fun n began hburst => ?_, fun channel live ends hsingle => ?_⟩
    · simp only [hfree]
    · rw [hburst]
    · rw [hsingle]
      cases channel <;> rfl
  · exact exec_thermistorTimer s
  · exact exec_motorITimer s
  · intro ht1 ht2 hu1 hu2
    have hcommute := Converter.requests_commute hfree (max s.now s.thermal.timerDue)
    have hlater : max (max s.now s.thermal.timerDue) s.blade.motorDue = max s.now s.thermal.timerDue := by omega
    have hlater' : max (max s.now s.thermal.timerDue) s.thermal.timerDue = max s.now s.thermal.timerDue := by omega
    rw [exec_thermistorTimer] at ht1
    obtain rfl := Host.Outcome.next.inj ht1
    rw [exec_motorITimer] at ht2 hu1
    obtain rfl := Host.Outcome.next.inj hu1
    rw [exec_thermistorTimer] at hu2
    simp only [hlater, hlater', ← hmoment, hcommute] at ht2 hu2
    exact (Host.Outcome.next.inj ht2).symm.trans (Host.Outcome.next.inj hu2)
  · rw [exec_conversionComplete hwork]
    rfl
  · rw [exec_conversionComplete hwork]
    simp only [State.deliver, State.motorReading, powerSample, motorCurrent, roundDiv_toNat]
    rfl
  · simp [exec, execConversionComplete, Converter.conversionEnd_of_other hother]


/-! ## Triggers (R53, R55, R147, R196) -/

/-- A recall gives a request back to its own waiting place: without a burst no SCALE request comes. -/
theorem Converter.recall_scale {c : Converter} (hscale : c.scale = none) (hburst : c.work.isBurst = false) (now : Nat) :
    (c.recall now).scale = none := by
  unfold Converter.recall
  split_ifs
  · unfold Converter.unbegin
    cases hwork : c.work with
    | free => exact hscale
    | single channel live ends => cases channel <;> exact hscale
    | burst n began => rw [hwork] at hburst; cases hburst
  · exact hscale

/-- A SCALE request begins at once when the converter is free, and waits otherwise (R143, R144). -/
theorem Converter.arrive_scale {c : Converter} (hscale : c.scale = none) (n now : Nat) :
    Converter.arrive { c with scale := some n } now =
      if c.work = .free then { c with work := .burst n now, chosenAt := some now } else { c with scale := some n } := by
  by_cases hfree : c.work = .free
  · rw [if_pos hfree, Converter.arrive_of_free (c := { c with scale := some n }) hfree]
    simp [Converter.begin, hscale]
  · rw [if_neg hfree, Converter.arrive_of_busy (c := { c with scale := some n }) hfree]

/-- A trigger is discarded while a SCALE request waits or a burst runs (R147). -/
theorem State.trigger_of_busy {s : State} (h : ¬ (s.converter.scale = none ∧ s.converter.work.isBurst = false)) :
    s.trigger = s := by
  unfold State.trigger
  refine if_pos ?_
  by_contra hfree
  simp only [Bool.or_eq_true, not_or, Bool.not_eq_true, Option.isSome_eq_false_iff, Option.isNone_iff_eq_none] at hfree
  exact h hfree

/-- Otherwise it asks for the pairs of the policy (R51, R53). -/
theorem State.trigger_of_idle {s : State} (hscale : s.converter.scale = none) (hburst : s.converter.work.isBurst = false) :
    s.trigger = { s with
      weigh := { s.weigh with sampleKind := s.weigh.kind }
      converter := if (s.converter.recall s.now).work = .free then
          { s.converter.recall s.now with work := .burst s.weigh.policy.pairs s.now, chosenAt := some s.now }
        else { s.converter.recall s.now with scale := some s.weigh.policy.pairs } } := by
  unfold State.trigger
  rw [if_neg (by simp [hscale, hburst]), State.request]
  dsimp only
  rw [Converter.arrive_scale (Converter.recall_scale hscale hburst s.now)]

/-- The free clock's tick (R55). -/
theorem exec_freeClockTick (s : State) : exec .freeClockTick s =
    .next (if s.weigh.policy.trigger = .free ∨ (s.weigh.policy.trigger = .auto ∧ s.weigh.kind ≠ .angle) then
        State.trigger { s with
          now := max s.now s.weigh.freeDue, weigh := { s.weigh with freeDue := s.weigh.freeDue + Config.ms 100 } }
      else { s with
        now := max s.now s.weigh.freeDue, weigh := { s.weigh with freeDue := s.weigh.freeDue + Config.ms 100 } }) := by
  simp only [exec, execFreeClockTick, State.reach_eq]
  cases htrigger : s.weigh.policy.trigger with
  | auto => by_cases hkind : s.weigh.kind = .angle <;> simp [hkind]
  | free => simp
  | external => simp

/-- The pin that an edge shows leaves the functions of the lines (R190). -/
theorem Aux.functionOf_setPin (a : Aux) (i j : Nat) (level : Bool) : (a.setPin i level).functionOf j = a.functionOf j := by
  unfold Aux.setPin Aux.functionOf
  rw [List.getElem?_modify]
  cases a.lines[j]? with
  | none => rfl
  | some l => by_cases h : i = j <;> simp [h]

/-- The edge on the line that holds the function (R196). -/
theorem exec_scaleTrigInEdge (dt : Nat) (line : Fin 8) (s : State) : exec (.scaleTrigInEdge dt line) s =
    .next (if s.aux.functionOf line = some .scaleTrigIn ∧ s.weigh.policy.trigger = .external then
        State.trigger { s with now := s.now + 3 * dt, aux := s.aux.setPin line true }
      else { s with now := s.now + 3 * dt, aux := s.aux.setPin line true }) := by
  simp only [exec, execScaleTrigInEdge, State.after_eq, Aux.functionOf_setPin]

/-- Settles O27: the free clock by policy and kind, and the edge by function and policy. -/
theorem triggersRequestABurst : Obligations.TriggersRequestABurst := by
  refine ⟨fun s => ?_, fun dt line s => ?_⟩
  · rw [exec_freeClockTick]
    by_cases hfires : s.weigh.policy.trigger = .free ∨ (s.weigh.policy.trigger = .auto ∧ s.weigh.kind ≠ .angle)
    · rw [if_pos hfires]
      by_cases hidle : s.converter.scale = none ∧ s.converter.work.isBurst = false
      · rw [State.trigger_of_idle (s := { s with now := max s.now s.weigh.freeDue, weigh := { s.weigh with
          freeDue := s.weigh.freeDue + Config.ms 100 } }) hidle.1 hidle.2]
        refine ⟨_, rfl, rfl, rfl, ?_, rfl⟩
        rw [if_pos (And.intro hfires hidle)]
        exact ⟨rfl, rfl⟩
      · rw [State.trigger_of_busy (s := { s with now := max s.now s.weigh.freeDue, weigh := { s.weigh with
          freeDue := s.weigh.freeDue + Config.ms 100 } }) hidle]
        refine ⟨_, rfl, rfl, rfl, ?_, rfl⟩
        rw [if_neg fun h => hidle h.2]
        exact ⟨rfl, rfl⟩
    · rw [if_neg hfires]
      refine ⟨_, rfl, rfl, rfl, ?_, rfl⟩
      rw [if_neg fun h => hfires h.1]
      exact ⟨rfl, rfl⟩
  · rw [exec_scaleTrigInEdge]
    by_cases hfires : s.aux.functionOf line = some .scaleTrigIn ∧ s.weigh.policy.trigger = .external
    · rw [if_pos hfires]
      by_cases hidle : s.converter.scale = none ∧ s.converter.work.isBurst = false
      · rw [State.trigger_of_idle (s := { s with now := s.now + 3 * dt, aux := s.aux.setPin line true }) hidle.1 hidle.2]
        refine ⟨_, rfl, rfl, rfl, ?_, rfl⟩
        rw [if_pos (And.intro hfires.1 (And.intro hfires.2 hidle))]
        exact ⟨rfl, rfl⟩
      · rw [State.trigger_of_busy (s := { s with now := s.now + 3 * dt, aux := s.aux.setPin line true }) hidle]
        refine ⟨_, rfl, rfl, rfl, ?_, rfl⟩
        rw [if_neg fun h => hidle h.2.2]
        exact ⟨rfl, rfl⟩
    · rw [if_neg hfires]
      refine ⟨_, rfl, rfl, rfl, ?_, rfl⟩
      rw [if_neg fun h => hfires ⟨h.1, h.2.1⟩]
      exact ⟨rfl, rfl⟩

end Sys2Proof.Machine
end

section
/-! SUPPORT. What the conversions of BASE, ELEMENT and MAINS and the loss timer leave (R94, R98 to R101, R103 to R105,
R127, R134). -/

namespace Sys2Proof.Machine

theorem Thermal.eq_of_kept_handed {t u : Thermal} (h : u.Kept t) :
    u = { t with setPoint := u.setPoint, grant := u.grant, gate := u.gate, vent := u.vent } :=
  Thermal.eq_of_kept h rfl rfl rfl

/-! ## BASE -/

/-- A BASE reading felt, before the interlocks are examined (R98, R99). -/
def State.baseFelt (s : State) (r : Reading) : State :=
  let s1 := s.gates { s with thermal := { s.thermal with
    base := r, baseHistory := historyAfter s.thermal.baseHistory r } }
  let s2 := s1.updateVent.notePeak
  if becomesInvalid s.thermal.base r then s2.cutGrant.send .sensor s2.runIndex (some (.source .base)) else s2

theorem State.baseReading_eq (s : State) (r : Reading) : s.baseReading r = (s.baseFelt r).examine := rfl

@[simp] theorem State.baseFelt_kept (s : State) (r : Reading) :
    (s.baseFelt r).KeptByHandover { s with thermal := { s.thermal with
      base := r, baseHistory := historyAfter s.thermal.baseHistory r } } ∧
    (s.baseFelt r).run = s.run ∧ (s.baseFelt r).now = s.now ∧ (s.baseFelt r).log = s.log ∧
    (s.baseFelt r).budget = s.budget ∧ (s.baseFelt r).converter = s.converter ∧ (s.baseFelt r).safety = s.safety ∧
    (s.baseFelt r).bus = s.bus ∧ (s.baseFelt r).pending = s.pending ∧
    (s.baseFelt r).program.Kept s.program := by
  unfold State.baseFelt
  dsimp only
  split_ifs <;> simp

theorem State.baseFelt_notices (s : State) (r : Reading) : (s.baseFelt r).notices =
    if r = .invalid ∧ s.thermal.base ≠ .invalid then s.noticesAfter .sensor s.runIndex (some (.source .base))
    else s.notices := by
  have hfault : becomesInvalid s.thermal.base r = true ↔ r = .invalid ∧ s.thermal.base ≠ .invalid := by
    simp [becomesInvalid]
  unfold State.baseFelt
  simp only [hfault]
  split_ifs
  · rw [State.send_notices, State.runIndex_congr (s := s) (by simp), State.noticesAfter_congr (s := s) (by simp) (by simp)]
  · simp

theorem State.baseFelt_cut {s : State} {r : Reading} (h : r = .invalid ∧ s.thermal.base ≠ .invalid) :
    (s.baseFelt r).thermal.grant = 0 ∧ (s.baseFelt r).thermal.gate = false := by
  unfold State.baseFelt
  dsimp only
  rw [if_pos (by simpa [becomesInvalid] using h)]
  simp

theorem Program.editResult_eq_modify {p : Program} {i : Nat} (h : i < p.results.length) (f : StepResult → StepResult) :
    p.editResult i f = { p with results := p.results.modify i f } := by
  simp [Program.editResult, List.modify_eq_set_get f h, h]

/-- The result at the cursor is ACTIVE: it is one of the table's. -/
theorem State.outcome_active {s : State} : (s.outcomeAt s.run.cursor).map Prod.fst = some .active ↔
    s.run.cursor < s.program.results.length ∧ (s.program.results.getD s.run.cursor .cleared).outcome = .active := by
  by_cases h : s.run.cursor < s.program.results.length
  · simp [State.outcomeAt, h]
  · simp [State.outcomeAt, h]

/-- The peak of an ACTIVE result (R11). -/
theorem State.notePeak_program (s : State) :
    (∀ x ∈ s.thermal.tb, (s.run.state.inRun = true ∨ s.run.state = .halted) ∧
        (s.outcomeAt s.run.cursor).map Prod.fst = some .active → s.notePeak.program = { s.program with
          results := s.program.results.modify s.run.cursor fun r => { r with peak := some (max x (r.peak.getD x)) } }) ∧
    (s.thermal.tb = none ∨ ¬ ((s.run.state.inRun = true ∨ s.run.state = .halted) ∧
      (s.outcomeAt s.run.cursor).map Prod.fst = some .active) → s.notePeak.program = s.program) := by
  rw [State.outcome_active]
  refine ⟨fun x hx hshown => ?_, fun hnot => ?_⟩
  · obtain ⟨hrun, hcursor, hactive⟩ := hshown
    rw [← Program.editResult_eq_modify hcursor]
    unfold State.notePeak
    simp only [show s.thermal.tb = some x from hx]
    rw [if_pos (by simpa using ⟨hrun, hactive⟩)]
    rfl
  · unfold State.notePeak
    rcases hnot with hnone | hhidden
    · simp only [hnone]
    · cases s.thermal.tb with
      | none => rfl
      | some x =>
        dsimp only
        split_ifs with hshown
        · simp only [Bool.and_eq_true, Bool.or_eq_true, decide_eq_true_eq] at hshown
          by_cases hcursor : s.run.cursor < s.program.results.length
          · exact absurd ⟨hshown.1, hcursor, hshown.2⟩ hhidden
          · simp only [State.editResult, Program.editResult, List.set_eq_of_length_le (Nat.le_of_not_lt hcursor)]
        · rfl

theorem State.baseFelt_program (s : State) (r : Reading) : (s.baseFelt r).program = (State.notePeak
    { s with thermal := { s.thermal with base := r, baseHistory := historyAfter s.thermal.baseHistory r } }).program := by
  have htb : (State.updateVent (s.gates { s with thermal := { s.thermal with
      base := r, baseHistory := historyAfter s.thermal.baseHistory r } })).thermal.tb =
      Thermal.tb { s.thermal with base := r, baseHistory := historyAfter s.thermal.baseHistory r } :=
    Thermal.tb_congr (by simp) (by simp)
  have hpeak : (State.notePeak (State.updateVent (s.gates { s with thermal := { s.thermal with
      base := r, baseHistory := historyAfter s.thermal.baseHistory r } }))).program = (State.notePeak { s with
      thermal := { s.thermal with base := r, baseHistory := historyAfter s.thermal.baseHistory r } }).program := by
    unfold State.notePeak
    rw [htb]
    cases Thermal.tb { s.thermal with base := r, baseHistory := historyAfter s.thermal.baseHistory r } with
    | none => simp
    | some x => simp [apply_ite State.program]
  rw [← hpeak]
  unfold State.baseFelt
  dsimp only
  split_ifs <;> simp

/-- The history keeps its last four values (R98). -/
theorem historyAfter_valid (history : List Int) (x : Int) : historyAfter history (.valid x) =
    (if history.length < 4 then history else history.drop (history.length - 3)) ++ [x] := by
  by_cases h : history.length < 4
  · have hnone : history.length + 1 - 4 = 0 := by omega
    simp [historyAfter, pushLast, h, hnone]
  · have hdrop : history.length + 1 - 4 = history.length - 3 := by omega
    simp only [historyAfter, pushLast, h, if_false, List.length_append, List.length_singleton, hdrop]
    rw [List.drop_append_of_le_length (by omega)]

theorem readingOf_ne_none (table : List (Nat × Int)) (code : Nat) : readingOf table code ≠ .none := by
  unfold readingOf
  cases interpolate table code <;> simp

/-- What a BASE reading leaves (R98, R99). -/
theorem State.baseReading_leaves (s : State) (r : Reading) :
    (s.baseReading r).thermal.base = r ∧
    (s.baseReading r).thermal.baseHistory = historyAfter s.thermal.baseHistory r ∧
    (∀ x ∈ (s.baseReading r).thermal.tb, (s.run.state.inRun = true ∨ s.run.state = .halted) ∧
        (s.outcomeAt s.run.cursor).map Prod.fst = some .active → (s.baseReading r).program = { s.program with
          results := s.program.results.modify s.run.cursor fun r => { r with peak := some (max x (r.peak.getD x)) } }) ∧
    ((s.baseReading r).thermal.tb = none ∨ ¬ ((s.run.state.inRun = true ∨ s.run.state = .halted) ∧
        (s.outcomeAt s.run.cursor).map Prod.fst = some .active) → (s.baseReading r).program = s.program) ∧
    (r = .invalid ∧ s.thermal.base ≠ .invalid →
      (s.baseReading r).thermal.grant = 0 ∧ (s.baseReading r).thermal.gate = false) ∧
    s.reexamined (s.baseReading r) (if r = .invalid ∧ s.thermal.base ≠ .invalid then
      s.noticesAfter .sensor s.runIndex (some (.source .base)) else s.notices) ∧
    (r = .invalid ∧ s.thermal.base ≠ .invalid → s.stepNeedsHeat = true → s.RunSound →
      (s.baseReading r).run.state = .held ∧ (s.baseReading r).run.causes.sensor = true ∧
      (s.baseReading r).run.causes.ack = true) ∧
    (s.baseReading r).KeptByHandover { s with thermal := { s.thermal with
      base := r, baseHistory := historyAfter s.thermal.baseHistory r } } := by
  have htb : (s.baseReading r).thermal.tb =
      Thermal.tb { s.thermal with base := r, baseHistory := historyAfter s.thermal.baseHistory r } :=
    Thermal.tb_congr (by simp [State.baseReading_eq]) (by simp [State.baseReading_eq])
  have hpeak := State.notePeak_program { s with thermal := { s.thermal with
    base := r, baseHistory := historyAfter s.thermal.baseHistory r } }
  rw [← State.baseFelt_program] at hpeak
  have hprogram : (s.baseReading r).program = (s.baseFelt r).program := by simp [State.baseReading_eq]
  have hafter := (s.baseFelt r).examine_reexamined
  rw [State.baseFelt_notices] at hafter
  rw [htb, hprogram]
  refine ⟨by simp [State.baseReading_eq], by simp [State.baseReading_eq], hpeak.1, hpeak.2, fun hfault => ?_, ?_,
    fun hfault hneeds hsound => ?_, by simp [State.baseReading_eq]⟩
  · exact State.examine_cut (State.baseFelt_cut hfault)
  · exact State.reexamined_congr (s := s.baseFelt r) (by simp) (by simp [Program.length]) rfl rfl ⟨rfl, rfl⟩ hafter
  · have hin : s.run.state.inRun = true := by
      by_contra hin
      simp [State.stepNeedsHeat, State.activeRecord, State.stepActive, hin] at hneeds
    have hsensor : (s.baseFelt r).stepInterlocks.sensor = true := by
      simpa [State.stepInterlocks, State.stepNeedsHeat, State.activeRecord, State.stepActive, State.record, hfault.1,
        Reading.isValid] using hneeds
    have hfelt : (s.baseFelt r).run.state.inRun = true := by simpa using hin
    obtain ⟨hheld, hack⟩ := State.examine_holds (s := s.baseFelt r) (State.runSound_congr (s := s) (by simp) hsound)
      hfelt (by rintro h; rw [h] at hsensor; cases hsensor)
    exact ⟨hheld, (congrArg CauseSet.sensor (State.examine_interlocks hfelt)).trans hsensor, hack⟩

/-- Settles O50: the reading felt, and the interlocks examined after it. -/
theorem baseCodesFormTheBaseTemperature : Obligations.BaseCodesFormTheBaseTemperature := by
  intro live ends code s hwork
  dsimp only
  rw [exec_conversionComplete hwork]
  have hleaves := State.baseReading_leaves { s with
    now := max s.now ends, converter := { s.converter with work := .free } } (readingOf s.thermal.table code.toNat)
  have hframe := State.baseReading_frame { s with
    now := max s.now ends, converter := { s.converter with work := .free } } (readingOf s.thermal.table code.toNat)
  have hne := readingOf_ne_none s.thermal.table code.toNat
  simp only [State.deliver]
  generalize readingOf s.thermal.table code.toNat = r at *
  generalize State.baseReading { s with
    now := max s.now ends, converter := { s.converter with work := .free } } r = u at *
  obtain ⟨hbase, hhistory, hpeak, hkept, hcut, hreexamined, hheld, hthermal, hweigh, hblade, haux⟩ := hleaves
  obtain ⟨hnow, hlog, hbudget, hconverter, hsafety, hbus, hpending⟩ := hframe
  have hparts : u.thermal = { s.thermal with
      base := u.thermal.base, baseHistory := u.thermal.baseHistory, setPoint := u.thermal.setPoint
      grant := u.thermal.grant, gate := u.thermal.gate, vent := u.thermal.vent } := by
    rw [hbase, hhistory]
    exact Thermal.eq_of_kept_handed hthermal
  have hconverter' : u.arbitrate.converter = Converter.choose { s.converter with work := .free } u.now := by
    rw [State.arbitrate_converter, hconverter]
  refine ⟨_, rfl, hnow, hconverter', hbase, ?_, ?_, hpeak, hkept, hcut,
    State.reexamined_congr rfl rfl rfl rfl ⟨rfl, rfl⟩ hreexamined, hheld, Blade.handoverFrame_of_kept hblade,
    State.eq_of_blocks ⟨rfl, rfl, rfl, Weigh.eq_of_kind hweigh, hlog, hparts, rfl, hbudget, rfl, hsafety, rfl, hbus, rfl,
      hpending⟩⟩
  · refine hhistory.trans ?_
    cases r with
    | none => rfl
    | invalid => rfl
    | valid x => exact historyAfter_valid _ x
  · refine (Thermal.tb_congr (s := { s.thermal with base := r, baseHistory := historyAfter s.thermal.baseHistory r })
      hbase hhistory).trans ?_
    cases r with
    | none => exact absurd rfl hne
    | invalid => rfl
    | valid x =>
      simp only [Thermal.tb, historyAfter_valid]
      rfl


/-! ## ELEMENT -/

@[simp] theorem State.elementReading_kept (s : State) (r : Reading) :
    (s.elementReading r).thermal.Kept { s.thermal with element := r, hot := hotAfter s.thermal.hot r } ∧
    (s.elementReading r).thermal.setPoint = s.thermal.setPoint ∧ (s.elementReading r).weigh.KeptButKind s.weigh ∧
    (s.elementReading r).blade.Kept s.blade ∧ (s.elementReading r).aux.KeptButLock s.aux := by
  unfold State.elementReading
  dsimp only
  split_ifs <;> simp

/-- An ELEMENT reading that is no fault and no element protection leaves the grant (R100, R101). -/
theorem State.elementReading_quiet {s : State} {r : Reading} (hfault : ¬ (r = .invalid ∧ s.thermal.element ≠ .invalid))
    (hhot : s.thermal.hot = true ∨ hotAfter s.thermal.hot r = false) (hr : r ≠ .none) :
    (s.elementReading r).thermal = { s.thermal with element := r, hot := hotAfter s.thermal.hot r } ∧
    (s.elementReading r).notices = s.notices := by
  have henabled : (s.heatEnabled && !State.heatEnabled { s with thermal := { s.thermal with
      element := r, hot := hotAfter s.thermal.hot r } }) = false := by
    cases hbefore : s.heatEnabled with
    | false => rfl
    | true =>
      simp only [State.heatEnabled, Bool.and_eq_true, Bool.not_eq_true'] at hbefore
      obtain ⟨⟨⟨⟨⟨hlease, hbase⟩, helement⟩, hmains⟩, hrun⟩, hcool⟩ := hbefore
      have hvalid : r.isValid = true := by
        cases r with
        | none => exact absurd rfl hr
        | valid x => rfl
        | invalid => exact absurd ⟨rfl, fun h => by rw [h] at helement; cases helement⟩ hfault
      have hafter : hotAfter s.thermal.hot r = false := hhot.resolve_left (by simp [hcool])
      have hstill : State.heatEnabled { s with thermal := { s.thermal with
          element := r, hot := hotAfter s.thermal.hot r } } = true := by
        simp only [State.heatEnabled, Bool.and_eq_true, Bool.not_eq_true']
        exact ⟨⟨⟨⟨⟨hlease, hbase⟩, hvalid⟩, hmains⟩, hrun⟩, hafter⟩
      rw [hstill]
      rfl
  have hstays : s.elementReading r = s.gates { s with thermal := { s.thermal with
      element := r, hot := hotAfter s.thermal.hot r } } := by
    unfold State.elementReading
    dsimp only
    rw [if_neg (by simpa [becomesInvalid] using hfault), if_neg (by rcases hhot with h | h <;> simp [h])]
  rw [hstays, State.gates_thermal, henabled]
  exact ⟨rfl, by simp⟩

theorem State.elementReading_fault {s : State} {r : Reading} (hfault : r = .invalid ∧ s.thermal.element ≠ .invalid) :
    (s.elementReading r).thermal.grant = 0 ∧ (s.elementReading r).thermal.gate = false ∧
    (s.elementReading r).notices = s.noticesAfter .sensor s.runIndex (some (.source .element)) := by
  unfold State.elementReading
  dsimp only
  rw [if_pos (by simpa [becomesInvalid] using hfault)]
  refine ⟨by simp, by simp, ?_⟩
  rw [State.send_notices, State.runIndex_congr (s := s) (by simp), State.noticesAfter_congr (s := s) (by simp) (by simp)]

theorem State.elementReading_hot {s : State} {x : Int} (hcool : s.thermal.hot = false)
    (hhot : hotAfter s.thermal.hot (.valid x) = true) :
    (s.elementReading (.valid x)).thermal.grant = 0 ∧ (s.elementReading (.valid x)).thermal.gate = false ∧
    (s.elementReading (.valid x)).notices = s.noticesAfter .elementHot s.runIndex (some (.temperature x)) := by
  unfold State.elementReading
  dsimp only
  rw [if_neg (by simp [becomesInvalid]), if_pos (by rw [hhot, hcool]; rfl)]
  refine ⟨by simp, by simp, ?_⟩
  rw [State.send_notices, State.runIndex_congr (s := s) (by simp), State.noticesAfter_congr (s := s) (by simp) (by simp)]
  rfl

/-- The element protection flag by its two bounds (R101). -/
theorem hotAfter_bounds (hot : Bool) (r : Reading) : (r = .invalid → hotAfter hot r = hot) ∧
    ∀ x, r = .valid x → (3000 ≤ x → hotAfter hot r = true) ∧ (x < 2700 → hotAfter hot r = false) ∧
      (2700 ≤ x → x < 3000 → hotAfter hot r = hot) := by
  refine ⟨fun h => by rw [h]; rfl, fun x h => ?_⟩
  subst h
  cases hot <;> simp [hotAfter] <;> omega

/-- What an ELEMENT reading leaves, as the statement writes it (R100, R101). -/
theorem State.elementReading_leaves (s : State) {r : Reading} (hr : r ≠ .none) :
    (s.elementReading r).thermal.element = r ∧
    (r = .invalid → (s.elementReading r).thermal.hot = s.thermal.hot) ∧
    (∀ x, r = .valid x → (3000 ≤ x → (s.elementReading r).thermal.hot = true) ∧
      (x < 2700 → (s.elementReading r).thermal.hot = false) ∧
      (2700 ≤ x → x < 3000 → (s.elementReading r).thermal.hot = s.thermal.hot)) ∧
    (r = .invalid ∧ s.thermal.element ≠ .invalid →
      (s.elementReading r).thermal.grant = 0 ∧ (s.elementReading r).thermal.gate = false ∧
      (s.elementReading r).notices = s.noticesAfter .sensor s.runIndex (some (.source .element))) ∧
    (∀ x, r = .valid x → s.thermal.hot = false → (s.elementReading r).thermal.hot = true →
      (s.elementReading r).thermal.grant = 0 ∧ (s.elementReading r).thermal.gate = false ∧
      (s.elementReading r).notices = s.noticesAfter .elementHot s.runIndex (some (.temperature x))) ∧
    (¬ (r = .invalid ∧ s.thermal.element ≠ .invalid) →
      (s.thermal.hot = true ∨ (s.elementReading r).thermal.hot = false) →
      (s.elementReading r).thermal = { s.thermal with element := r, hot := (s.elementReading r).thermal.hot } ∧
      (s.elementReading r).notices = s.notices) := by
  have hhot : (s.elementReading r).thermal.hot = hotAfter s.thermal.hot r := by simp
  obtain ⟨hinvalid, hvalid⟩ := hotAfter_bounds s.thermal.hot r
  rw [hhot]
  refine ⟨by simp, hinvalid, hvalid, State.elementReading_fault, fun x hx hcool hbegins => ?_,
    fun hfault hquiet => State.elementReading_quiet hfault hquiet hr⟩
  subst hx
  exact State.elementReading_hot hcool hbegins

/-- Settles O51: the flag by its two bounds, the fault, the element protection, and neither. -/
theorem elementCodesGuardTheElement : Obligations.ElementCodesGuardTheElement := by
  intro live ends code s hwork
  dsimp only
  rw [exec_conversionComplete hwork]
  have hframe := State.elementReading_frame { s with
    now := max s.now ends, converter := { s.converter with work := .free } } (readingOf s.thermal.table code.toNat)
  have hkept := State.elementReading_kept { s with
    now := max s.now ends, converter := { s.converter with work := .free } } (readingOf s.thermal.table code.toNat)
  have hleaves := State.elementReading_leaves { s with
    now := max s.now ends, converter := { s.converter with work := .free } } (readingOf_ne_none s.thermal.table code.toNat)
  simp only [State.deliver]
  generalize readingOf s.thermal.table code.toNat = r at *
  generalize State.elementReading { s with
    now := max s.now ends, converter := { s.converter with work := .free } } r = u at *
  obtain ⟨hnow, hprogram, hrun, hlog, hbudget, hconverter, hsafety, hbus, hpending⟩ := hframe
  obtain ⟨hthermal, hpoint, hweigh, hblade, haux⟩ := hkept
  obtain ⟨helement, hinvalid, hvalid, hfault, hprotect, hquiet⟩ := hleaves
  have hconverter' : u.arbitrate.converter = Converter.choose { s.converter with work := .free } u.now := by
    rw [State.arbitrate_converter, hconverter]
  have hparts : u.thermal = { s.thermal with
      element := u.thermal.element, hot := u.thermal.hot, grant := u.thermal.grant, gate := u.thermal.gate
      vent := u.thermal.vent } := by
    have h := Thermal.eq_of_kept_handed hthermal
    have hhot : u.thermal.hot = hotAfter s.thermal.hot r := congrArg Thermal.hot h
    rw [hhot, helement]
    rwa [hpoint] at h
  exact ⟨_, rfl, hnow, hconverter', helement, hinvalid, hvalid, hfault, hprotect, hquiet, Blade.handoverFrame_of_kept hblade,
    State.eq_of_blocks ⟨rfl, hprogram, hrun, Weigh.eq_of_kind hweigh, hlog, hparts, rfl, hbudget, rfl, hsafety, rfl, hbus,
      Aux.eq_of_lock haux, hpending⟩⟩

end Sys2Proof.Machine
end

section
/-! SUPPORT. A change of the mains state, by a MAINS conversion or by the loss timer (R103 to R105, R127, R134). -/

namespace Sys2Proof.Machine

/-- A change of the mains state felt, before the interlocks are examined (R104, R105, R127). -/
def State.mainsFelt (s : State) (m : MainsState) : State :=
  let s1 := s.gates { s with thermal := { s.thermal with mains := m } }
  (if m = .lost then s1.inverterOff else s1.endRest).sendMains m

theorem State.setMains_of_change {s : State} {m : MainsState} (h : m ≠ s.thermal.mains) :
    s.setMains m = (s.mainsFelt m).examine := if_neg h

theorem State.setMains_of_same (s : State) : s.setMains s.thermal.mains = s := if_pos rfl

@[simp] theorem State.mainsFelt_kept (s : State) (m : MainsState) :
    (s.mainsFelt m).KeptByHandover { s with thermal := { s.thermal with mains := m } } ∧
    (s.mainsFelt m).run = s.run ∧ (s.mainsFelt m).now = s.now ∧ (s.mainsFelt m).program = s.program ∧
    (s.mainsFelt m).log = s.log ∧ (s.mainsFelt m).safety = s.safety := by
  unfold State.mainsFelt
  dsimp only
  split_ifs <;> simp

/-- The notice lists after the notice of an entry into a mains state (R104). -/
def State.mainsNotices (s : State) : MainsState → PerPort NoticeList
  | .present => s.notices
  | .undervolt => s.noticesAfter .sensor s.runIndex (some (.source .mainsLow))
  | .lost => s.noticesAfter .sensor s.runIndex (some (.source .mainsLost))

theorem State.sendMains_notices {s u : State} (hnotices : u.notices = s.notices) (hrun : u.run = s.run) (m : MainsState) :
    (u.sendMains m).notices = s.mainsNotices m := by
  cases m with
  | present => exact hnotices
  | undervolt =>
    refine (State.send_notices _ _ _ _).trans ?_
    rw [State.runIndex_congr hrun, State.noticesAfter_congr hnotices (by rw [hrun])]
    rfl
  | lost =>
    refine (State.send_notices _ _ _ _).trans ?_
    rw [State.runIndex_congr hrun, State.noticesAfter_congr hnotices (by rw [hrun])]
    rfl

theorem State.mainsFelt_notices (s : State) (m : MainsState) : (s.mainsFelt m).notices = s.mainsNotices m := by
  unfold State.mainsFelt
  dsimp only
  split_ifs
  · exact State.sendMains_notices (by simp) (by simp) m
  · exact State.sendMains_notices (by simp) (by simp) m

theorem State.examine_inverter (s : State) : s.examine.blade.inverter = s.blade.inverter :=
  State.examine_keeps (P := fun u => u.blade.inverter = s.blade.inverter) (fun _ hblade h => by rwa [hblade])
    (fun {u} h => by rw [← h]; simp [State.handIdle]) rfl

theorem State.gates_inverter {r s : State} (h : r.motionEnabled = false) :
    (r.gates s).blade.inverter = s.blade.inverter := by
  unfold State.gates
  simp only [h, Bool.false_and, Bool.false_eq_true, if_false]
  split_ifs <;> simp

theorem State.inverterOff_off (s : State) : s.inverterOff.blade.inverter = .off ∧ s.inverterOff.blade.effective = 0 ∧
    s.inverterOff.blade.commanded = s.blade.commanded := by
  simp [State.inverterOff]

/-- The loss of the mains takes heat and motion and turns the inverter off (R105, R127). -/
theorem State.mainsFelt_lost (s : State) : s.enablesLost (s.mainsFelt .lost) ∧ (s.mainsFelt .lost).blade.inverter = .off ∧
    (s.mainsFelt .lost).blade.effective = 0 ∧ (s.mainsFelt .lost).blade.commanded = 0 := by
  obtain ⟨hstill, -, hcut⟩ := State.gates_enablesLost (r := s) (s := { s with thermal := { s.thermal with mains := .lost } })
    rfl rfl (by simp [State.heatEnabled, State.mainsLost]) (by simp [State.motionEnabled, State.mainsLost])
  have hfelt : s.mainsFelt .lost = ((s.gates { s with thermal := { s.thermal with
      mains := .lost } }).inverterOff).sendMains .lost := rfl
  obtain ⟨hoff, heffective, hcommanded⟩ := State.inverterOff_off (s.gates { s with thermal := { s.thermal with
    mains := .lost } })
  rw [hfelt]
  refine ⟨⟨?_, fun _ => ?_, fun hguarded => ?_⟩, ?_, ?_, ?_⟩
  · rw [(State.sendMains_frame _ _).2.2.2.2.2.2.1, hcommanded, hstill]
  · rw [(State.sendMains_frame _ _).2.2.2.2.2.2.1, heffective]
  · simpa using hcut hguarded
  all_goals rw [(State.sendMains_frame _ _).2.2.2.2.2.2.1]
  · exact hoff
  · exact heffective
  · rw [hcommanded, hstill]

/-- The return of the mains lets a blade at rest drive again (R127). -/
theorem State.mainsFelt_drives {s : State} {m : MainsState} (hm : m ≠ .lost) (hlost : s.thermal.mains = .lost)
    (hoff : s.blade.inverter = .off) (hrested : s.rested = true) : (s.mainsFelt m).blade.inverter = .driving := by
  have hinverter : (s.gates { s with thermal := { s.thermal with mains := m } }).blade.inverter = .off := by
    rw [State.gates_inverter (by simp [State.motionEnabled, State.mainsLost, hlost])]
    exact hoff
  unfold State.mainsFelt
  dsimp only
  rw [if_neg hm, (State.sendMains_frame _ _).2.2.2.2.2.2.1, State.endRest_of_rested
    ⟨.inr ⟨hinverter, by simp [State.mainsLost, hm]⟩, by simpa [State.rested] using hrested⟩]
  simp

/-- What a change of the mains state leaves, as the statements write it (R34, R47, R104, R105, R127). -/
theorem State.setMains_leaves {s : State} {m : MainsState} (h : m ≠ s.thermal.mains) :
    (s.setMains m).KeptByHandover { s with thermal := { s.thermal with mains := m } } ∧
    (m = .lost → s.enablesLost (s.setMains m) ∧ (s.setMains m).blade.inverter = .off ∧
      (s.setMains m).blade.effective = 0) ∧
    (s.thermal.mains = .lost → s.blade.inverter = .off → s.rested = true → (s.setMains m).blade.inverter = .driving) ∧
    (m = .lost → s.stepActive = true → s.RunSound → (s.setMains m).run.state = .held ∧
      (s.setMains m).run.causes.mains = true ∧ (s.setMains m).run.causes.ack = true) ∧
    s.reexamined (s.setMains m) (s.mainsNotices m) := by
  rw [State.setMains_of_change h]
  refine ⟨by simp, fun hm => ?_, fun hlost hoff hrested => ?_, fun hm hactive hsound => ?_, ?_⟩
  · subst hm
    obtain ⟨hlost, hoff, heffective, -⟩ := s.mainsFelt_lost
    exact ⟨State.enablesLost_examine hlost, (State.examine_inverter _).trans hoff, State.examine_effective.trans heffective⟩
  · rw [State.examine_inverter]
    exact State.mainsFelt_drives (fun hm => h (hm.trans hlost.symm)) hlost hoff hrested
  · have hin : (s.mainsFelt m).run.state.inRun = true := by
      simp only [State.stepActive, Bool.and_eq_true] at hactive
      simpa using hactive.1
    have hmains : (s.mainsFelt m).stepInterlocks.mains = true := by
      have hstill : (s.mainsFelt m).stepActive = true := by simpa [State.stepActive] using hactive
      subst hm
      simp [State.stepInterlocks, hstill, State.mainsLost]
    obtain ⟨hheld, hack⟩ := State.examine_holds (s := s.mainsFelt m) (State.runSound_congr (s := s) (by simp) hsound)
      hin (by rintro h; rw [h] at hmains; cases hmains)
    exact ⟨hheld, (congrArg CauseSet.mains (State.examine_interlocks hin)).trans hmains, hack⟩
  · have hafter := (s.mainsFelt m).examine_reexamined
    rw [State.mainsFelt_notices] at hafter
    exact State.reexamined_congr (s := s.mainsFelt m) (by simp) (by simp) rfl rfl ⟨rfl, rfl⟩ hafter


/-- A mains state that stays leaves the voltage alone; one that changes does what it does, beside the moment, the
converter and the voltage (R104). -/
theorem State.setMains_keeps (s : State) (m : MainsState) : (s.setMains m).thermal.Kept { s.thermal with mains := m } ∧
    (s.setMains m).weigh.KeptButKind s.weigh ∧ (s.setMains m).blade.Kept s.blade ∧ (s.setMains m).aux.Kept s.aux := by
  by_cases h : m = s.thermal.mains
  · subst h
    rw [State.setMains_of_same]
    simp
  · exact (State.setMains_leaves h).1

/-- Settles O52: an abandoned window's code, an unchanged state, and a changed one. -/
theorem mainsCodesGiveTheMainsState : Obligations.MainsCodesGiveTheMainsState := by
  intro live ends code s hwork
  dsimp only
  rw [exec_conversionComplete hwork]
  simp only [State.deliver, State.mainsReading, roundDiv_toNat]
  have hvolts : (code.toNat * s.thermal.kmains * 2 + 4096) / (2 * 4096) =
      (code.toNat * s.thermal.kmains * 2 + 4096) / 8192 := rfl
  rw [hvolts]
  generalize (code.toNat * s.thermal.kmains * 2 + 4096) / 8192 = v
  have hstate : (if v < 900 then MainsState.lost else if v < 1800 then .undervolt else .present) = mainsOf v := rfl
  rw [hstate]
  generalize mainsOf v = m
  cases live with
  | false =>
    exact ⟨_, rfl, rfl, rfl, fun _ => rfl, fun h => (by cases h), fun h => (by cases h), rfl, rfl⟩
  | true =>
    have hframe := State.setMains_frame { s with
      now := max s.now ends, converter := { s.converter with work := .free }
      thermal := { s.thermal with volts := some v } } m
    have hkept := State.setMains_keeps { s with
      now := max s.now ends, converter := { s.converter with work := .free }
      thermal := { s.thermal with volts := some v } } m
    have hsame (h : m = s.thermal.mains) : State.setMains { s with
        now := max s.now ends, converter := { s.converter with work := .free }
        thermal := { s.thermal with volts := some v } } m = { s with
        now := max s.now ends, converter := { s.converter with work := .free }
        thermal := { s.thermal with volts := some v } } := by
      subst h
      exact State.setMains_of_same _
    have hleaves (h : m ≠ s.thermal.mains) := State.setMains_leaves (s := { s with
      now := max s.now ends, converter := { s.converter with work := .free }
      thermal := { s.thermal with volts := some v } }) h
    simp only [if_true]
    generalize State.setMains { s with
      now := max s.now ends, converter := { s.converter with work := .free }
      thermal := { s.thermal with volts := some v } } m = u at *
    obtain ⟨hnow, hprogram, hlog, hbudget, hconverter, hsafety, hbus, hpending⟩ := hframe
    obtain ⟨hthermal, hweigh, hblade, haux⟩ := hkept
    have hparts := Thermal.eq_of_kept_handed hthermal
    have hmains : u.thermal.mains = m := congrArg Thermal.mains hparts
    have hread : u.thermal.volts = some v := congrArg Thermal.volts hparts
    refine ⟨_, rfl, hnow, ?_, fun h => (by cases h), fun _ hm => ?_, fun _ hm => ?_, Blade.handoverFrame_of_kept hblade,
      State.eq_of_blocks ⟨rfl, hprogram, rfl, Weigh.eq_of_kind hweigh, hlog, ?_, rfl, hbudget, rfl, hsafety, rfl, hbus, rfl,
        hpending⟩⟩
    · rw [State.arbitrate_converter, hconverter]
      rfl
    · rw [hsame hm]
      rfl
    · obtain ⟨-, hlost, hdrives, hheld, hreexamined⟩ := hleaves hm
      refine ⟨hmains, hread, fun h => hlost h, fun hwas hoff hrested => hdrives hwas hoff ?_, hheld, ?_⟩
      · rw [State.arbitrate_now, hnow] at hrested
        exact hrested
      · refine State.reexamined_congr rfl rfl rfl rfl ⟨rfl, rfl⟩ (Eq.subst (motive := fun n => State.reexamined _ u n) ?_ hreexamined)
        cases m <;> rfl
    · rw [State.arbitrate_thermal, hmains, hread]
      exact hparts

theorem Converter.orphanMains_orphans (c : Converter) : c.orphanMains.mainsLive = false ∧
    ∀ ends, c.orphanMains.work ≠ .single .mains true ends := by
  refine ⟨rfl, fun ends h => ?_⟩
  unfold Converter.orphanMains at h
  cases hwork : c.work with
  | free => simp [hwork] at h
  | burst n began => simp [hwork] at h
  | single channel live at_ => cases channel <;> simp [hwork] at h

theorem State.abandonWindow_eq (s : State) : s.abandonWindow = { s with
    thermal := { s.thermal with
      cycle := none, grant := 0, duty := 0, gate := false
      vent := if s.thermal.vent = .on then .runout (s.now + 90000000) else s.thermal.vent }
    blade := { s.blade with powerSum := 0, powerCount := 0 }
    converter := s.converter.orphanMains } := by
  unfold State.abandonWindow
  rw [State.updateVent_dark rfl]

/-- Settles O53: no timer, and the window abandoned, with a loss that begins and with one already there. -/
theorem lostMainsAbandonsTheWindow : Obligations.LostMainsAbandonsTheWindow := by
  refine ⟨fun s hnone => by simp [exec, execMainsLossTimeout, hnone], fun s moment htimer => ?_⟩
  have hstep : exec .mainsLossTimeout s = .next (State.setMains (State.abandonWindow { s with
      now := max s.now moment, thermal := { s.thermal with lossTimer := none } }) .lost) := by
    simp [exec, execMainsLossTimeout, htimer, State.reach_eq]
  rw [hstep, State.abandonWindow_eq]
  obtain ⟨s1, hs1⟩ : ∃ s1 : State, s1 = { s with
    now := max s.now moment
    thermal := { s.thermal with
      lossTimer := none, cycle := none, grant := 0, duty := 0, gate := false
      vent := if s.thermal.vent = .on then .runout (max s.now moment + 90000000) else s.thermal.vent }
    blade := { s.blade with powerSum := 0, powerCount := 0 }
    converter := s.converter.orphanMains } := ⟨_, rfl⟩
  have hthermal1 : s1.thermal.Kept { s.thermal with lossTimer := none, cycle := none, duty := 0 } := by simp [hs1]
  have hwindow : (s1.blade.powerSum = 0 ∧ s1.blade.powerCount = 0 ∧ s1.blade.pmot = s.blade.pmot) ∧
      s1.weigh = s.weigh := by simp [hs1]
  have hblocks : s1.now = max s.now moment ∧ s1.program = s.program ∧ s1.run = s.run ∧ s1.log = s.log ∧
      s1.budget = s.budget ∧ s1.converter = s.converter.orphanMains ∧ s1.safety = s.safety ∧ s1.bus = s.bus ∧
      s1.pending = s.pending ∧ s1.notices = s.notices := by simp [hs1]
  have hcut : s1.thermal.grant = 0 ∧ s1.thermal.gate = false := by simp [hs1]
  have hmains : s1.thermal.mains = s.thermal.mains := by rw [hs1]
  have hframe := State.setMains_frame s1 .lost
  have hkept := State.setMains_keeps s1 .lost
  have hsame (h : s.thermal.mains = .lost) : s1.setMains .lost = s1 := by
    rw [← h, ← hmains]
    exact State.setMains_of_same s1
  have hleaves (h : s.thermal.mains ≠ .lost) := State.setMains_leaves (s := s1) (m := .lost) (by rw [hmains]; exact h.symm)
  change ∃ t, Host.Outcome.next (State.setMains _ .lost) = _ ∧ _
  rw [← hs1]
  clear hs1 hstep
  generalize s1.setMains .lost = u at *
  obtain ⟨hnow, hprogram, hlog, hbudget, hconverter, hsafety, hbus, hpending⟩ := hframe
  obtain ⟨hnow1, hprogram1, hrun1, hlog1, hbudget1, hconverter1, hsafety1, hbus1, hpending1, hnotices1⟩ := hblocks
  obtain ⟨hthermal, hweigh, hblade, haux⟩ := hkept
  obtain ⟨horphan, horphans⟩ := s.converter.orphanMains_orphans
  have hdark : u.thermal.grant = 0 ∧ u.thermal.gate = false := by
    by_cases hlost : s.thermal.mains = .lost
    · rw [hsame hlost]
      exact hcut
    · obtain ⟨-, hloses, -⟩ := hleaves hlost
      exact (hloses rfl).1.2.2 (State.heaterGuarded_of_cut hcut)
  have hparts : u.thermal = { s.thermal with
      mains := .lost, lossTimer := none, cycle := none, duty := 0, setPoint := u.thermal.setPoint
      grant := 0, gate := false, vent := u.thermal.vent } := by
    have h := Thermal.eq_of_kept_handed hthermal
    rw [hdark.1, hdark.2] at h
    have h1 := Thermal.eq_of_kept_handed hthermal1
    rw [h1] at h
    exact h
  obtain ⟨-, -, -, -, -, -, hsum, hcount, hpmot, -⟩ := id hblade
  refine ⟨u, rfl, hnow.trans hnow1, congrArg Thermal.mains hparts, congrArg Thermal.lossTimer hparts,
    congrArg Thermal.cycle hparts, hdark.1, congrArg Thermal.duty hparts, hdark.2, hsum.trans hwindow.1.1,
    hcount.trans hwindow.1.2.1, hpmot.trans hwindow.1.2.2, hconverter.trans hconverter1, ?_, ?_, fun hlost => ?_,
    fun hpresent => ?_, ?_⟩
  · rw [hconverter, hconverter1]
    exact horphan
  · rw [hconverter, hconverter1]
    exact horphans
  · rw [hsame hlost]
    exact ⟨hrun1, hnotices1⟩
  · obtain ⟨-, hloses, -, hheld, hreexamined⟩ := hleaves hpresent
    obtain ⟨⟨hstill, -, -⟩, hoff, heffective⟩ := hloses rfl
    refine ⟨hoff, heffective, hstill, ?_, fun hactive hsound => hheld rfl ?_ ?_⟩
    · have hsent : s1.mainsNotices .lost = s.noticesAfter .sensor s.runIndex (some (.source .mainsLost)) := by
        rw [State.mainsNotices, State.runIndex_congr hrun1, State.noticesAfter_congr hnotices1 (by rw [hrun1])]
      rw [hsent] at hreexamined
      exact State.reexamined_congr hrun1.symm (by rw [hprogram1]) rfl rfl ⟨rfl, rfl⟩ hreexamined
    · simpa [State.stepActive, hrun1] using hactive
    · exact State.runSound_congr (s := s) (by simp [hrun1, hprogram1, hlog1]) hsound
  · exact State.eq_of_blocks ⟨rfl, hprogram.trans hprogram1, rfl, Weigh.eq_of_kind (by rw [← hwindow.2]; exact hweigh),
      hlog.trans hlog1, hparts, rfl, hbudget.trans hbudget1, rfl, hsafety.trans hsafety1, rfl, hbus.trans hbus1, rfl,
      hpending.trans hpending1⟩

end Sys2Proof.Machine
end

section
/-! SUPPORT. The small timers and the blade's own timers (R54, R117, R121 to R130, R194, R195). -/

namespace Sys2Proof.Machine

/-- Settles O60: each timer by its own rule. -/
theorem smallTimersRunOut : Obligations.SmallTimersRunOut := by
  refine ⟨fun s => ?_, fun s moment hvent => ?_, fun s hvent => ?_, fun s b hbuzzer => ⟨?_, ?_⟩, fun s hbuzzer => ⟨?_, ?_⟩,
    fun s => ?_⟩
  · by_cases hlevel : s.blade.commanded = 0
    · have hstopped : State.bladeStopped (s.reach (s.blade.lastPulse.getD 0 + restWait)) = true := by
        simp [State.bladeStopped, hlevel]
      simp only [exec, execBladeStopped, if_pos hlevel, State.updateKind, State.kindNow, hstopped]
      rfl
    · simp only [exec, execBladeStopped, if_neg hlevel]
  · simp only [exec, execVentFanRunoutEnd, hvent, State.reach_eq]
  · cases hfan : s.thermal.vent with
    | off => simp only [exec, execVentFanRunoutEnd, hfan]
    | on => simp only [exec, execVentFanRunoutEnd, hfan]
    | runout moment => exact absurd hfan (hvent moment)
  · simp only [exec, execBuzzerPhaseEnd, hbuzzer]
    rfl
  · simp [Aux.buzzing, hbuzzer]
  · simp only [exec, execBuzzerPhaseEnd, hbuzzer]
  · simp [Aux.buzzing, hbuzzer]
  · by_cases hheld : s.run.state = .held
    · simp only [exec, execRunLampBlink, if_pos hheld]
      rfl
    · simp only [exec, execRunLampBlink, if_neg hheld]


/-! ## What an update of the blade leaves, as the statements write it -/

theorem State.updateBlade_blade (s : State) : s.updateBlade.blade = { s.blade with
    commanded := s.updateBlade.commandedLevel, ramp := s.updateBlade.blade.ramp, settle := s.updateBlade.blade.settle
    stallTimer := s.updateBlade.blade.stallTimer } := by
  have hcommanded : s.updateBlade.blade.commanded = s.updateBlade.commandedLevel := by simp
  rw [← hcommanded]
  exact Blade.eq_of_following (by simp)

/-- An update of the blade after a change of moment and blade alone. -/
theorem State.bladeFrame_updateBlade {s u : State} (h : u = { s with now := u.now, blade := u.blade }) :
    s.bladeFrame u.updateBlade := by
  have heq := u.updateBlade_eq
  rw [h] at heq ⊢
  exact State.eq_of_blocks ⟨rfl, by simp, by simp, Weigh.eq_of_kind (by simp), by simp, by simp, rfl, by simp, by simp,
    by simp, by simp, by simp, Aux.eq_of_lock (by simp), by simp⟩

theorem State.updateBlade_lock (s : State) : s.updateBlade.aux.lockEngaged = s.updateBlade.lockCondition :=
  (State.updateBlade_follows s).2.1

theorem State.takeDirection_eq (s : State) : s.takeDirection = { s with blade := { s.blade with
    direction := if s.blade.effective = 0 then s.blade.wantDirection.getD s.blade.direction else s.blade.direction } } := by
  unfold State.takeDirection
  split_ifs <;> rfl

/-- Where no ramp runs, the update starts what the target asks for (R123, R128). -/
theorem State.updateBlade_ramp {s : State} (hramp : s.blade.ramp = none) :
    (s.updateBlade.targetLevel = s.updateBlade.blade.effective → s.updateBlade.blade.ramp = none) ∧
    (s.updateBlade.blade.inverter ≠ .driving → s.updateBlade.blade.ramp = none ∧ s.updateBlade.blade.settle = none) ∧
    (s.updateBlade.blade.inverter = .driving → s.updateBlade.targetLevel < s.updateBlade.blade.effective →
      s.updateBlade.blade.ramp = some ⟨false, s.updateBlade.now + 750000⟩ ∧ s.updateBlade.blade.settle = none) ∧
    (s.updateBlade.blade.inverter = .driving → s.updateBlade.blade.effective < s.updateBlade.targetLevel →
      if s.updateBlade.blade.effective = 0 ∧ (∃ l ∈ s.updateBlade.aux.lines, l.function = .lidLock) ∧
          s.updateBlade.aux.lockEngaged = true ∧ s.updateBlade.now < s.updateBlade.aux.lockedAt + 900000 then
        s.updateBlade.blade.ramp = none ∧ s.updateBlade.blade.settle = some (s.updateBlade.aux.lockedAt + 900000)
      else s.updateBlade.blade.ramp = some ⟨true, s.updateBlade.now + s.updateBlade.thermal.upInterval⟩ ∧
        s.updateBlade.blade.settle = none) := by
  obtain ⟨v, hv⟩ : ∃ v, v = s.updateCommanded.updateLock := ⟨_, rfl⟩
  have hrampNow : s.updateBlade.blade.ramp = v.rampNow.1 := by rw [hv]; rfl
  have hsettleNow : s.updateBlade.blade.settle = v.rampNow.2 := by rw [hv]; rfl
  have haux : s.updateBlade.aux = v.aux := by rw [hv]; rfl
  have htarget : s.updateBlade.targetLevel = v.targetLevel := by
    rw [hv]
    exact State.targetLevel_congr (by simp) (by simp) (by simp) (by simp) (by simp) (by simp)
  have hblade : s.updateBlade.blade.effective = v.blade.effective ∧ s.updateBlade.blade.inverter = v.blade.inverter ∧
      s.updateBlade.now = v.now ∧ s.updateBlade.thermal = v.thermal := by
    rw [hv]
    simp
  have hnone : v.blade.ramp = none := by
    rw [hv]
    simpa using hramp
  obtain ⟨heffective, hinverter, hnow, hthermal⟩ := hblade
  rw [hrampNow, hsettleNow, haux, htarget, heffective, hinverter, hnow, hthermal]
  have hsettle : (v.blade.effective = 0 && v.mustSettle) = true ↔ v.blade.effective = 0 ∧
      (∃ l ∈ v.aux.lines, l.function = .lidLock) ∧ v.aux.lockEngaged = true ∧ v.now < v.aux.lockedAt + 900000 := by
    simp only [State.mustSettle, Aux.hasLidLock, Bool.and_eq_true, decide_eq_true_eq, List.any_eq_true, and_assoc]
    rfl
  have hmoves (hdriving : v.blade.inverter = .driving) (hne : v.targetLevel ≠ v.blade.effective) :
      ¬ (v.blade.inverter ≠ .driving ∨ v.targetLevel = v.blade.effective) :=
    not_or.mpr ⟨not_not.mpr hdriving, hne⟩
  unfold State.rampNow
  refine ⟨fun hreached => ?_, fun hidle => ?_, fun hdriving hdown => ?_, fun hdriving hup => ?_⟩
  · rw [if_pos (.inr hreached)]
  · rw [if_pos (.inl hidle)]
    exact ⟨rfl, rfl⟩
  · rw [if_neg (hmoves hdriving hdown.ne), if_neg hdown.not_gt, hnone]
    exact ⟨rfl, rfl⟩
  · rw [if_neg (hmoves hdriving hup.ne'), if_pos hup]
    by_cases hwaits : (v.blade.effective = 0 && v.mustSettle) = true
    · rw [if_pos hwaits, if_pos (hsettle.mp hwaits)]
      exact ⟨rfl, rfl⟩
    · rw [if_neg hwaits, if_neg fun h => hwaits (hsettle.mpr h), hnone]
      exact ⟨rfl, rfl⟩

/-- A lid lock that is engaged keeps its moment (R193). -/
theorem State.updateBlade_lockedAt {s : State} (h : s.aux.lockEngaged = true) :
    s.updateBlade.aux.lockedAt = s.aux.lockedAt := by
  have haux : s.updateBlade.aux = s.updateCommanded.updateLock.aux := rfl
  rw [haux]
  unfold State.updateLock
  split_ifs with hopen hengaged
  · simp
  · simp
  · simp [h] at hengaged

/-! ## Levels (R121 to R123) -/

theorem Thermal.hotBase_eq_false {t : Thermal} : t.hotBase = false ↔ ∃ x ∈ t.tb, x < 600 := by
  unfold Thermal.hotBase
  cases t.tb <;> simp

/-- A level moved, by the ramp's direction (R124, R126, R130, R136). -/
theorem State.moveLevel_eq (s : State) (up : Bool) : s.moveLevel up = { s with
    blade := { s.blade with
      effective := if up then s.blade.effective + 1 else s.blade.effective - 1
      ramp := none
      roseAt := if up = true ∧ s.blade.effective = 0 then some s.now else s.blade.roseAt
      halfTimer := if up = true ∧ s.blade.effective = 0 ∧ s.blade.stir.pattern = .knead ∧
          s.blade.wantDirection = some s.blade.direction then some (s.blade.halfTimer.getD (s.now + 6000000))
        else s.blade.halfTimer }
    budget := { s.budget with
      peak := if up then max s.budget.peak (s.blade.effective + 1) else s.budget.peak } } := by
  cases up with
  | false => simp [State.moveLevel]
  | true =>
    by_cases hzero : s.blade.effective = 0
    · simp [State.moveLevel, Blade.halfAfterRise, hzero, Config.sec]
    · simp [State.moveLevel, hzero]

/-- RAMP_STEP (R123, R124, R128). -/
theorem State.rampStep_leaves {s : State} {r : Ramp} (hramp : s.blade.ramp = some r) :
    ∃ t, exec .rampStep s = .next t ∧ t.now = max s.now r.deadline ∧
      t.blade.effective = (if r.up then s.blade.effective + 1 else s.blade.effective - 1) ∧
      t.blade.direction = (if t.blade.effective = 0 then s.blade.wantDirection.getD s.blade.direction
        else s.blade.direction) ∧
      t.blade.roseAt = (if r.up = true ∧ s.blade.effective = 0 then some t.now else s.blade.roseAt) ∧
      t.blade.halfTimer = (if r.up = true ∧ s.blade.effective = 0 ∧ s.blade.stir.pattern = .knead ∧
          s.blade.wantDirection = some s.blade.direction then some (s.blade.halfTimer.getD (t.now + 6000000))
        else s.blade.halfTimer) ∧
      t.budget = { s.budget with
        peak := if r.up then max s.budget.peak (s.blade.effective + 1) else s.budget.peak } ∧
      t.blade.commanded = t.commandedLevel ∧
      (t.targetLevel = t.blade.effective → t.blade.ramp = none) ∧
      (t.blade.inverter ≠ .driving → t.blade.ramp = none ∧ t.blade.settle = none) ∧
      (t.blade.inverter = .driving → t.targetLevel < t.blade.effective →
        t.blade.ramp = some ⟨false, t.now + 750000⟩ ∧ t.blade.settle = none) ∧
      (t.blade.inverter = .driving → t.blade.effective < t.targetLevel →
        if t.blade.effective = 0 ∧ (∃ l ∈ t.aux.lines, l.function = .lidLock) ∧ t.aux.lockEngaged = true ∧
            t.now < t.aux.lockedAt + 900000 then
          t.blade.ramp = none ∧ t.blade.settle = some (t.aux.lockedAt + 900000)
        else t.blade.ramp = some ⟨true, t.now + t.thermal.upInterval⟩ ∧ t.blade.settle = none) ∧
      s.bladeFrame { t with budget := s.budget } := by
  have hstep : exec .rampStep s = .next (((s.reach r.deadline).moveLevel r.up).takeDirection.updateBlade) := by
    simp only [exec, execRampStep, hramp]
  obtain ⟨v, hv⟩ : ∃ v, v = ((s.reach r.deadline).moveLevel r.up).takeDirection := ⟨_, rfl⟩
  rw [State.moveLevel_eq, State.takeDirection_eq] at hv
  rw [hstep, State.moveLevel_eq, State.takeDirection_eq, ← hv]
  have hnow : v.updateBlade.now = max s.now r.deadline := by simp [hv]
  have heffective : v.updateBlade.blade.effective = if r.up then s.blade.effective + 1 else s.blade.effective - 1 := by
    simp [hv]
  have hdirection : v.updateBlade.blade.direction = v.blade.direction := by simp
  have hrose : v.updateBlade.blade.roseAt = v.blade.roseAt := by simp
  have hhalf : v.updateBlade.blade.halfTimer = v.blade.halfTimer := by simp
  have hbudget : v.updateBlade.budget = v.budget := by simp
  obtain ⟨hreached, hidle, hdown, hup⟩ := State.updateBlade_ramp (s := v) (by simp [hv])
  refine ⟨_, rfl, hnow, heffective, ?_, ?_, ?_, ?_, by simp, hreached, hidle, hdown, hup, ?_⟩
  · rw [heffective, hdirection, hv]
    rfl
  · rw [hnow, hrose, hv]
    rfl
  · rw [hnow, hhalf, hv]
    rfl
  · rw [hbudget, hv]
    rfl
  · exact State.eq_of_blocks ⟨rfl, by simp [hv], by simp [hv], Weigh.eq_of_kind (by simp [hv]), by simp [hv], by simp [hv],
      rfl, rfl, by simp [hv], by simp [hv], by simp [hv], by simp [hv], Aux.eq_of_lock (by simp [hv]), by simp [hv]⟩

theorem State.reach_rested {s : State} {l : Nat} (hpulse : s.blade.lastPulse = some l) :
    (s.reach (l + restWait)).rested = true := by
  rw [State.rested, State.reach_blade, hpulse, State.reach_now, Option.all_some, decide_eq_true_eq]
  exact Nat.le_max_right _ _

theorem State.waitsForRest_iff {s : State} : s.waitsForRest = true ↔
    s.blade.inverter = .braking ∨ (s.blade.inverter = .off ∧ s.thermal.mains ≠ .lost) := by
  simp [State.waitsForRest, State.mainsLost]

/-- Settles O58: the levels, then each of the blade's timers. -/
theorem bladeTimersMoveTheBlade : Obligations.BladeTimersMoveTheBlade := by
  refine ⟨fun s => ⟨?_, ?_, ?_⟩, fun s => ⟨fun hnone => ?_, fun r hramp => ?_⟩, fun s => ⟨fun hnone => ?_, fun m on off htimer hpattern => ?_⟩,
    fun s => ⟨fun hnone => ?_, fun m htimer => ?_⟩, fun s => ⟨fun hnot => ?_, fun hwaits => ?_⟩,
    fun s => ⟨fun hnone => ?_, fun m hsettle => ?_⟩⟩
  · unfold Thermal.upInterval
    simp only [← Thermal.hotBase_eq_false]
    cases s.thermal.hotBase <;> rfl
  · unfold State.targetLevel
    simp only [← Thermal.hotBase_eq_false]
    have hreversing : s.blade.reversing = true ↔ ∃ d ∈ s.blade.wantDirection, d ≠ s.blade.direction := by
      unfold Blade.reversing
      cases s.blade.wantDirection <;> simp
    simp only [hreversing]
    cases s.thermal.hotBase <;> rfl
  · have hdrives : (s.motionEnabled && (decide (s.run.state = .running) || decide (s.run.state = .manual))) = true ↔
        (s.safety.stopLatch = false ∧ s.safety.motionPermit.active = true ∧ s.safety.lidClosed.active = true ∧
          s.safety.lease = .live ∧ s.thermal.mains ≠ .lost) ∧ (s.run.state = .running ∨ s.run.state = .manual) := by
      simp [State.motionEnabled, State.leaseLive, State.mainsLost, and_assoc]
    unfold State.commandedLevel
    simp only [hdrives]
    rfl
  · simp only [exec, execRampStep, hnone]
  · exact State.rampStep_leaves hramp
  · simp only [exec, execIntervalPhaseEnd, hnone]
  · have hstep : exec .intervalPhaseEnd s = .next (State.updateBlade { s with now := max s.now m, blade := { s.blade with
        intervalOn := !s.blade.intervalOn
        patternTimer := some (m + 3000000 * (if s.blade.intervalOn then off else on)) } }) := by
      simp only [exec, execIntervalPhaseEnd, htimer, hpattern]
      rfl
    rw [hstep]
    exact ⟨_, rfl, by simp, State.updateBlade_blade _, State.bladeFrame_updateBlade rfl⟩
  · simp only [exec, execKneadHalfEnd, hnone]
  · have hstep : exec .kneadHalfEnd s = .next (State.updateBlade (State.takeDirection { s with
        now := max s.now m
        blade := { s.blade with
          halfTimer := none, wantDirection := s.blade.wantDirection.map Direction.other } })) := by
      simp only [exec, execKneadHalfEnd, show s.blade.halfTimer = some m from htimer]
      rfl
    have hother : (fun d : Direction => if d = .forward then Direction.reverse else .forward) = Direction.other := by
      funext d
      cases d <;> rfl
    rw [hstep, State.takeDirection_eq, hother]
    exact ⟨_, rfl, by simp, by simp, by simp, by simp, by simp, by simp, by simp, State.bladeFrame_updateBlade rfl⟩
  · have hstays : s.waitsForRest = false := by
      rw [Bool.eq_false_iff, ne_eq, State.waitsForRest_iff]
      exact hnot
    simp only [exec, execInverterRestWaitEnd, hstays]
    rfl
  · obtain ⟨u, hu, hnow, hrested⟩ : ∃ u : State, u = { s with now := u.now } ∧
        u.now = (s.blade.lastPulse.map fun l => max s.now (l + 1500000)).getD s.now ∧ u.rested = true ∧
        exec .inverterRestWaitEnd s = .next u.endRest := by
      simp only [exec, execInverterRestWaitEnd, State.waitsForRest_iff.mpr hwaits, if_true]
      cases hpulse : s.blade.lastPulse with
      | none => exact ⟨s, rfl, rfl, by simp [State.rested, hpulse], rfl⟩
      | some l =>
        have hwait : restWait = 1500000 := rfl
        refine ⟨s.reach (l + restWait), rfl, ?_, State.reach_rested hpulse, rfl⟩
        rw [hwait, State.reach_now, Option.map_some, Option.getD_some]
    have hdrives : u.endRest = State.updateBlade { s with now := u.now, blade := { s.blade with inverter := .driving } } := by
      rw [hu] at hrested ⊢
      exact State.endRest_of_rested ⟨by simpa [State.mainsLost] using hwaits, hrested.1⟩
    rw [hrested.2, hdrives]
    exact ⟨_, rfl, by rw [← hnow]; simp, State.updateBlade_blade _, State.bladeFrame_updateBlade rfl⟩
  · simp only [exec, execLidLockSettleEnd, hnone]
  · have hstep : exec .lidLockSettleEnd s = .next (State.updateBlade { s with now := max s.now m }) := by
      simp only [exec, execLidLockSettleEnd, show s.blade.settle = some m from hsettle]
      rfl
    rw [hstep]
    refine ⟨_, rfl, by simp, State.updateBlade_blade _, fun hengaged hwaited hramp hdriving hzero htarget => ?_,
      State.bladeFrame_updateBlade rfl⟩
    obtain ⟨-, -, -, hup⟩ := State.updateBlade_ramp (s := { s with now := max s.now m }) hramp
    have hlocked := State.updateBlade_lockedAt (s := { s with now := max s.now m }) hengaged
    have hzero' : (State.updateBlade { s with now := max s.now m }).blade.effective = 0 := by simpa using hzero
    have hnow : (State.updateBlade { s with now := max s.now m }).now = max s.now m := by simp
    have hstart := hup (by simpa using hdriving) (by rw [hzero']; exact htarget)
    have hover : ¬ max s.now m < s.aux.lockedAt + 900000 := by omega
    rw [if_neg fun h => hover (by rw [hnow, hlocked] at h; exact h.2.2.2)] at hstart
    exact ⟨hstart.2, hstart.1⟩

end Sys2Proof.Machine
end

section
/-! SUPPORT. Index pulses and the actual speed (R54, R55, R129, R130). -/

namespace Sys2Proof.Machine

theorem State.acceptsPulse_iff {s : State} : s.acceptsPulse = true ↔ ∀ l ∈ s.blade.lastPulse, l + 15000 ≤ s.now := by
  unfold State.acceptsPulse
  cases s.blade.lastPulse with
  | none => simp
  | some l =>
    rw [Option.all_some, decide_eq_true_eq]
    exact ⟨fun h x hx => by obtain rfl := Option.some.inj hx; exact h, fun h => h l rfl⟩

/-- The period within 3.0 s of the accepted pulse before (R130). -/
theorem State.pulsePeriod_of_near {s : State} {l : Nat} (hpulse : s.blade.lastPulse = some l) (hnear : s.now ≤ l + 9000000) :
    s.pulsePeriod = some (s.now - l) := by
  unfold State.pulsePeriod
  simp only [hpulse]
  exact if_pos hnear

/-- Otherwise the period from the rise, or none (R130). -/
theorem State.pulsePeriod_of_far {s : State} (hfar : ¬ ∃ l ∈ s.blade.lastPulse, s.now ≤ l + 9000000) :
    (∀ x ∈ s.blade.roseAt, s.now ≤ x + 9000000 → x + 15000 ≤ s.now → s.pulsePeriod = some (s.now - x)) ∧
    ((∀ x ∈ s.blade.roseAt, x + 9000000 < s.now ∨ s.now < x + 15000) → s.pulsePeriod = none) := by
  have hrise : s.pulsePeriod = match s.blade.roseAt with
      | some t => if s.now ≤ t + speedWindow ∧ t + leastPeriod ≤ s.now then some (s.now - t) else none
      | none => none := by
    unfold State.pulsePeriod
    cases hpulse : s.blade.lastPulse with
    | none => rfl
    | some l => exact if_neg fun hnear => hfar ⟨l, hpulse, hnear⟩
  rw [hrise]
  refine ⟨fun x hx hnear hleast => ?_, fun hnone => ?_⟩
  · rw [show s.blade.roseAt = some x from hx]
    exact if_pos ⟨hnear, hleast⟩
  · cases hx : s.blade.roseAt with
    | none => rfl
    | some x =>
      refine if_neg fun h => ?_
      rcases hnone x hx with hlong | hshort
      · exact absurd h.1 (Nat.not_le.mpr hlong)
      · exact absurd h.2 (Nat.not_le.mpr hshort)

theorem State.countPulse_eq (s : State) : s.countPulse = { s with blade := { s.blade with
    lastPulse := some s.now
    lastPeriod := s.pulsePeriod.orElse fun _ => s.blade.lastPeriod
    actual := (s.pulsePeriod.map speedOf).getD 0
    checkDue := s.now + 30000 } } := by
  unfold State.countPulse
  cases s.pulsePeriod <;> rfl

/-- After a pulse of this moment the blade is not stopped (R54). -/
theorem State.kindNow_of_pulse {s : State} (h : s.blade.lastPulse = some s.now) :
    s.kindNow = kindFor s.weigh.policy.trigger s.blade.commanded false := by
  have hmoving : s.bladeStopped = false := by
    rw [State.bladeStopped, h, Option.getD_some, Bool.and_eq_false_iff]
    refine .inr (decide_eq_false ?_)
    have hwait : restWait = 1500000 := rfl
    omega
  rw [State.kindNow, hmoving]

theorem State.trigger_request {s : State} (h : s.converter.scale = none ∧ s.converter.work.isBurst = false) :
    s.trigger = { s with
      weigh := { s.weigh with sampleKind := s.weigh.kind }
      converter := Converter.arrive { s.converter.recall s.now with scale := some s.weigh.policy.pairs } s.now } := by
  unfold State.trigger
  exact if_neg (by simp [h.1, h.2])

/-- An accepted pulse before its trigger (R54, R130). -/
def State.pulsed (s : State) : State :=
  { s.countPulse.updateBlade with
    weigh := { s.countPulse.updateBlade.weigh with kind := s.countPulse.updateBlade.kindNow } }

theorem exec_indexPulse_of_accepted {dt : Nat} {s : State} (h : (s.after dt).acceptsPulse = true) :
    exec (.indexPulse dt) s = .next
      (if (s.after dt).pulsed.weigh.policy.trigger = .auto ∧ (s.after dt).pulsed.weigh.kind = .angle then
        (s.after dt).pulsed.trigger else (s.after dt).pulsed) := by
  simp only [exec, execIndexPulse, h, if_true]
  rfl

/-- What an accepted pulse leaves before its trigger. -/
theorem State.pulsed_leaves (s : State) : s.pulsed.now = s.now ∧
    s.pulsed.blade = { s.blade with
      lastPulse := some s.now, lastPeriod := s.pulsed.blade.lastPeriod, actual := s.pulsed.blade.actual
      checkDue := s.now + 30000, commanded := s.pulsed.commandedLevel, ramp := s.pulsed.blade.ramp
      settle := s.pulsed.blade.settle, stallTimer := s.pulsed.blade.stallTimer } ∧
    s.pulsed.blade.lastPeriod = (s.pulsePeriod.orElse fun _ => s.blade.lastPeriod) ∧
    s.pulsed.blade.actual = (s.pulsePeriod.map speedOf).getD 0 ∧
    s.pulsed.weigh.kind = kindFor s.weigh.policy.trigger s.pulsed.blade.commanded false ∧
    s.pulsed.aux.lockEngaged = s.pulsed.lockCondition ∧ s.bladeFrame s.pulsed := by
  have hframe : s.bladeFrame s.countPulse.updateBlade := State.bladeFrame_updateBlade rfl
  have hblade := s.countPulse.updateBlade_blade
  have hlock := s.countPulse.updateBlade_lock
  have hkind := State.kindNow_of_pulse (s := s.countPulse.updateBlade) (by simp [State.countPulse_eq])
  have hsame : s.pulsed.blade = s.countPulse.updateBlade.blade ∧
      s.pulsed.commandedLevel = s.countPulse.updateBlade.commandedLevel ∧
      s.pulsed.lockCondition = s.countPulse.updateBlade.lockCondition ∧ s.pulsed.aux = s.countPulse.updateBlade.aux :=
    ⟨rfl, rfl, rfl, rfl⟩
  have hweigh : s.pulsed.weigh = { s.countPulse.updateBlade.weigh with kind := s.pulsed.weigh.kind } := rfl
  obtain ⟨hsblade, hscommanded, hslock, hsaux⟩ := hsame
  refine ⟨by simp [State.pulsed, State.countPulse_eq], ?_, ?_, ?_, ?_, ?_, ?_⟩
  · rw [hsblade, hscommanded]
    refine hblade.trans ?_
    simp [State.countPulse_eq]
  · rw [hsblade]
    simp [State.countPulse_eq]
  · rw [hsblade]
    simp [State.countPulse_eq]
  · refine hkind.trans ?_
    rw [hsblade]
    simp [State.countPulse_eq]
  · rw [hsaux, hslock]
    exact hlock
  · have hkept : s.pulsed.weigh.KeptButKind s.weigh := by simp [State.pulsed, State.countPulse_eq]
    exact State.eq_of_blocks ⟨rfl, (congrArg State.program hframe :), (congrArg State.run hframe :), Weigh.eq_of_kind hkept,
      (congrArg State.log hframe :), (congrArg State.thermal hframe :), rfl, (congrArg State.budget hframe :),
      (congrArg State.converter hframe :), (congrArg State.safety hframe :), (congrArg State.notices hframe :),
      (congrArg State.bus hframe :), (congrArg State.aux hframe :), (congrArg State.pending hframe :)⟩

/-- The check finds the blade slower than its last period (R130). -/
theorem exec_speedCheck_of_slow {s : State} {l x : Nat} (hpulse : s.blade.lastPulse = some l)
    (hperiod : s.blade.lastPeriod = some x) (h : x < max s.now s.blade.checkDue - l) : exec .speedCheck s =
      .next (State.updateBlade { s with
        now := max s.now s.blade.checkDue
        blade := { s.blade with
          actual := min s.blade.actual (speedOf (max s.now s.blade.checkDue - l)), checkDue := s.blade.checkDue + 30000 } }) := by
  simp only [exec, execSpeedCheck, State.reach_eq, hpulse, hperiod, if_pos h]
  rfl

theorem exec_speedCheck_of_quick {s : State}
    (h : ¬ ∃ l ∈ s.blade.lastPulse, ∃ x ∈ s.blade.lastPeriod, x < max s.now s.blade.checkDue - l) :
    exec .speedCheck s = .next { s with
      now := max s.now s.blade.checkDue, blade := { s.blade with checkDue := s.blade.checkDue + 30000 } } := by
  cases hpulse : s.blade.lastPulse with
  | none => simp only [exec, execSpeedCheck, State.reach_eq, hpulse]; rfl
  | some l =>
    cases hperiod : s.blade.lastPeriod with
    | none => simp only [exec, execSpeedCheck, State.reach_eq, hpulse, hperiod]; rfl
    | some x =>
      have hquick : ¬ x < max s.now s.blade.checkDue - l := fun hless => h ⟨l, hpulse, x, hperiod, hless⟩
      simp only [exec, execSpeedCheck, State.reach_eq, hpulse, hperiod, if_neg hquick]
      rfl

/-- Settles O57: pulses ignored and accepted, the check between pulses, and the timeout. -/
theorem pulsesGiveTheActualSpeed : Obligations.PulsesGiveTheActualSpeed := by
  refine ⟨fun dt s => ⟨fun hignored => ?_, fun haccepted => ?_⟩, fun s => ?_, fun s => ⟨fun hnone => ?_, fun l hpulse => ?_⟩⟩
  · have hno : (s.after dt).acceptsPulse = false := by
      rw [Bool.eq_false_iff, ne_eq, State.acceptsPulse_iff]
      exact hignored
    simp only [exec, execIndexPulse, hno]
    rfl
  · have hyes : (s.after dt).acceptsPulse = true := State.acceptsPulse_iff.mpr haccepted
    rw [exec_indexPulse_of_accepted hyes]
    obtain ⟨hnow, hblade, hperiod, hactual, hkind, hlock, hframe⟩ := (s.after dt).pulsed_leaves
    have hnear (l : Nat) (hl : s.blade.lastPulse = some l) (h : s.now + 3 * dt ≤ l + 9000000) :=
      State.pulsePeriod_of_near (s := s.after dt) hl h
    have hfar := State.pulsePeriod_of_far (s := s.after dt)
    generalize (s.after dt).pulsed = v at *
    generalize (s.after dt).pulsePeriod = period at *
    have hpolicy : v.weigh.policy = s.weigh.policy := (congrArg (fun u : State => u.weigh.policy) hframe :)
    have hconverter : v.converter = s.converter := (congrArg State.converter hframe :)
    have hsample : v.weigh.sampleKind = s.weigh.sampleKind :=
      (congrArg (fun u : State => u.weigh.sampleKind) hframe :)
    have hparts (c : Converter) (k : Kind) : ({ v with converter := c, weigh := { v.weigh with sampleKind := k } } : State) =
        { s with
          now := s.now + 3 * dt, blade := v.blade, converter := c
          weigh := { s.weigh with kind := v.weigh.kind, sampleKind := k }
          aux := { s.aux with lockEngaged := v.aux.lockEngaged, lockedAt := v.aux.lockedAt } } := by
      have hmoment : v.now = s.now + 3 * dt := hnow
      conv_lhs => rw [hframe]
      rw [hmoment]
      rfl
    have hspeeds : (∀ l ∈ s.blade.lastPulse, s.now + 3 * dt ≤ l + 9000000 →
          v.blade.lastPeriod = some (s.now + 3 * dt - l) ∧
          v.blade.actual = (roundDiv 180000000 (s.now + 3 * dt - l)).toNat) ∧
        (¬ (∃ l ∈ s.blade.lastPulse, s.now + 3 * dt ≤ l + 9000000) → ∀ x ∈ s.blade.roseAt,
          s.now + 3 * dt ≤ x + 9000000 → x + 15000 ≤ s.now + 3 * dt →
          v.blade.lastPeriod = some (s.now + 3 * dt - x) ∧
          v.blade.actual = (roundDiv 180000000 (s.now + 3 * dt - x)).toNat) ∧
        (¬ (∃ l ∈ s.blade.lastPulse, s.now + 3 * dt ≤ l + 9000000) →
          (∀ x ∈ s.blade.roseAt, x + 9000000 < s.now + 3 * dt ∨ s.now + 3 * dt < x + 15000) →
          v.blade.lastPeriod = s.blade.lastPeriod ∧ v.blade.actual = 0) := by
      rw [hperiod, hactual]
      refine ⟨fun l hl h => ?_, fun hno x hx hlong hleast => ?_, fun hno hnone => ?_⟩
      · rw [hnear l hl h]
        exact ⟨rfl, rfl⟩
      · rw [(hfar hno).1 x hx hlong hleast]
        exact ⟨rfl, rfl⟩
      · rw [(hfar hno).2 hnone]
        exact ⟨rfl, rfl⟩
    by_cases hfires : v.weigh.policy.trigger = .auto ∧ v.weigh.kind = .angle
    · rw [if_pos hfires]
      by_cases hidle : s.converter.scale = none ∧ s.converter.work.isBurst = false
      · rw [State.trigger_request (by rw [hconverter]; exact hidle)]
        refine ⟨_, rfl, hnow, hblade, hspeeds.1, hspeeds.2.1, hspeeds.2.2, hkind, ?_, hlock, ?_⟩
        · rw [if_pos (And.intro (hpolicy ▸ hfires.1) (And.intro hfires.2 hidle))]
          rw [hconverter, hnow, hpolicy]
          exact ⟨hfires.2, rfl⟩
        · exact hparts _ _
      · rw [State.trigger_of_busy (by rw [hconverter]; exact hidle)]
        refine ⟨_, rfl, hnow, hblade, hspeeds.1, hspeeds.2.1, hspeeds.2.2, hkind, ?_, hlock, ?_⟩
        · rw [if_neg fun h => hidle h.2.2]
          exact ⟨hsample, hconverter⟩
        · exact hparts v.converter v.weigh.sampleKind
    · rw [if_neg hfires]
      refine ⟨_, rfl, hnow, hblade, hspeeds.1, hspeeds.2.1, hspeeds.2.2, hkind, ?_, hlock, ?_⟩
      · rw [if_neg fun h => hfires ⟨hpolicy.symm ▸ h.1, h.2.1⟩]
        exact ⟨hsample, hconverter⟩
      · exact hparts v.converter v.weigh.sampleKind
  · by_cases hslow : ∃ l ∈ s.blade.lastPulse, ∃ x ∈ s.blade.lastPeriod, x < max s.now s.blade.checkDue - l
    · obtain ⟨l, hl, x, hx, hless⟩ := hslow
      have hpulse : s.blade.lastPulse = some l := hl
      have hperiod : s.blade.lastPeriod = some x := hx
      rw [exec_speedCheck_of_slow hpulse hperiod hless]
      refine ⟨_, rfl, by simp, by simp, State.bladeFrame_updateBlade rfl, fun l' hl' x' hx' _ => ?_, fun hquiet => ?_⟩
      · obtain rfl : l = l' := Option.some.inj (hpulse.symm.trans hl')
        exact ⟨by simp [speedOf], State.updateBlade_lock _⟩
      · rcases hquiet with hnone | hnone | ⟨l', hl', x', hx', hmore⟩
        · rw [hpulse] at hnone
          cases hnone
        · rw [hperiod] at hnone
          cases hnone
        · obtain rfl : l = l' := Option.some.inj (hpulse.symm.trans hl')
          obtain rfl : x = x' := Option.some.inj (hperiod.symm.trans hx')
          rw [(State.updateBlade_frame _).1] at hmore
          exact absurd hless (Nat.not_lt.mpr hmore)
    · rw [exec_speedCheck_of_quick hslow]
      exact ⟨_, rfl, rfl, rfl, rfl, fun l hl x hx hless => absurd ⟨l, hl, x, hx, hless⟩ hslow, fun _ => rfl⟩
  · simp only [exec, execSpeedTimeout, hnone]
  · have hstep : exec .speedTimeout s = .next (State.updateBlade { s with
        now := max s.now (l + speedWindow), blade := { s.blade with actual := 0 } }) := by
      simp only [exec, execSpeedTimeout, State.reach_eq, show s.blade.lastPulse = some l from hpulse]
    have hwindow : speedWindow = 9000000 := rfl
    rw [hstep, hwindow]
    exact ⟨_, rfl, by simp, by simp, State.updateBlade_lock _, State.bladeFrame_updateBlade rfl⟩

end Sys2Proof.Machine
end

section
/-! SUPPORT. The run's own time: the run clock, the active time, TIME_DONE and OVERDUE (R23, R28, R29, R32). -/

namespace Sys2Proof.Machine

/-- An edit of a place that the table does not have changes nothing. -/
theorem Program.editResult_outside {p : Program} {i : Nat} (h : p.results.length ≤ i) (f : StepResult → StepResult) :
    p.editResult i f = { p with results := p.results.modify i f } := by
  simp only [Program.editResult, List.set_eq_of_length_le h, List.modify_eq_self h]

theorem exec_runClockTick (dt : Nat) (s : State) : exec (.runClockTick dt) s = .next { s with
    now := s.now + 3 * dt
    run := { s.run with clock := if s.run.state = .running ∨ s.run.state = .held then min 4294967295 (s.run.clock + 1)
      else s.run.clock } } := by
  simp only [exec, execRunClockTick, State.after_eq, RunState.inRun_iff]
  split_ifs <;> rfl

theorem exec_activeTimeTick (dt : Nat) (s : State) : exec (.activeTimeTick dt) s = .next
    (if s.run.state = .running ∧ s.run.phase = .active then
      { s with
        now := s.now + 3 * dt, run := { s.run with active := min 144000 (s.run.active + 1), countRose := true }
        program := { s.program with
          results := s.program.results.modify s.run.cursor
            fun r => { r with activeTime := min 144000 (s.run.active + 1) } } }
    else { s with now := s.now + 3 * dt }) := by
  have hedit (f : StepResult → StepResult) :
      s.program.editResult s.run.cursor f = { s.program with results := s.program.results.modify s.run.cursor f } := by
    rcases Nat.lt_or_ge s.run.cursor s.program.results.length with hin | hout
    · exact Program.editResult_eq_modify hin f
    · exact Program.editResult_outside hout f
  simp only [exec, execActiveTimeTick, State.after_eq]
  by_cases hrun : s.run.state = .running ∧ s.run.phase = .active
  · simp only [if_pos hrun, State.riseActive, State.editResult, hedit]
    rfl
  · exact congrArg Host.Outcome.next ((if_neg hrun).trans (if_neg hrun).symm)

theorem StepRecord.mem_conditions_timeDone {r : StepRecord} : .timeDone ∈ r.conditions ↔ r.time.isSome = true := by
  simp only [StepRecord.conditions]
  split_ifs <;> simp_all

/-- A count from the entry has reached its duration (R29). -/
theorem Run.timeReached_fromEntry {r : Run} {x : TimePart} (h : x.start = .fromEntry) :
    r.timeReached x = true ↔ x.duration * 10 ≤ r.active := by
  simp [Run.timeReached, h]

/-- A count from the reached mark has reached its duration, or the end of the count (R29). -/
theorem Run.timeReached_fromReached {r : Run} {x : TimePart} (h : x.start = .fromReached) : r.timeReached x = true ↔
    ∃ mark ∈ r.reached, mark + x.duration * 10 ≤ r.active ∨ 144000 ≤ r.active := by
  simp only [Run.timeReached, h]
  cases r.reached with
  | none => simp
  | some mark => simp only [Bool.or_eq_true, decide_eq_true_eq, Option.mem_def, Option.some.injEq, exists_eq_left']; rfl

/-- TIME_DONE can happen for a step with a Time part (R29). -/
theorem State.timeIsDone_iff {s : State} {r : StepRecord} {x : TimePart} (hr : s.record = some r) (hx : r.time = some x) :
    s.timeIsDone = true ↔ s.run.state = .running ∧ s.run.phase = .active ∧ s.run.countRose = true ∧
      s.run.timeReached x = true := by
  by_cases hrun : s.run.state = .running ∧ s.run.phase = .active
  · have hactive : s.activeRecord = some r := State.activeRecord_eq_some.mpr ⟨by simp [hrun.1], hrun.2, hr⟩
    simp [State.timeIsDone, hactive, hx, hrun]
  · refine ⟨fun h => ?_, fun h => absurd ⟨h.1, h.2.1⟩ hrun⟩
    simp only [State.timeIsDone, Bool.and_eq_true, decide_eq_true_eq] at h
    obtain ⟨⟨hstate, -⟩, hany⟩ := h
    cases hactive : s.activeRecord with
    | none => simp [hactive] at hany
    | some r => exact absurd ⟨hstate, (State.activeRecord_eq_some.mp hactive).2.1⟩ hrun

/-- OVERDUE can happen for a step with a limit (R32). -/
theorem State.isOverdue_iff {s : State} : s.isOverdue = true ↔ s.run.state = .running ∧ s.run.phase = .active ∧
    s.run.countRose = true ∧ s.run.overdueTaken = false ∧ ∃ r ∈ s.record, ∃ l ∈ r.limit, l * 10 ≤ s.run.active := by
  simp only [State.isOverdue, Bool.and_eq_true, decide_eq_true_eq, Bool.not_eq_true']
  cases hactive : s.activeRecord with
  | none =>
    refine ⟨fun h => by simp at h, fun ⟨hstate, hphase, _, _, r, hr, _⟩ => ?_⟩
    rw [State.activeRecord_eq_some.mpr ⟨by simp [hstate], hphase, hr⟩] at hactive
    cases hactive
  | some r =>
    have ⟨_, hphase, hr⟩ := State.activeRecord_eq_some.mp hactive
    cases hl : r.limit <;> simp [hphase, hr, hl, and_assoc]

/-- The addition of OVERDUE to a RUNNING step (R32, R33, R35). -/
theorem State.overdue_holds {s : State} {r : StepRecord} (hr : s.record = some r) (hstate : s.run.state = .running)
    (hphase : s.run.phase = .active) (habsent : s.run.causes.overdue = false) :
    let t := State.addCauses { s with run := { s.run with overdueTaken := true } } { overdue := true }
    t.run = { s.run with state := .held, overdueTaken := true, causes := { s.run.causes with overdue := true } } ∧
    t.notices = s.noticesAfter .held (some s.run.cursor) (some (.causes t.run.causes)) ∧
    t.blade.commanded = 0 ∧ t.blade.stir = .zero ∧
    t.thermal.setPoint = (r.heat.map fun h => ⟨min h.target 650, h.cap, h.band⟩) ∧ s.handoverFrame t ∧
    t = { s with
      run := t.run, thermal := t.thermal, weigh := t.weigh, blade := t.blade, notices := t.notices, aux := t.aux } := by
  obtain ⟨u, hu⟩ : ∃ u : State, u = { s with run := { s.run with overdueTaken := true } } := ⟨_, rfl⟩
  have hunion : u.run.causes.union { overdue := true } = { s.run.causes with overdue := true } := by
    simp [hu, CauseSet.union]
  have hnew : u.run.causes.union { overdue := true } ≠ u.run.causes := by
    rw [hunion]
    intro heq
    have hset := congrArg CauseSet.overdue heq
    simp [hu, habsent] at hset
  have hstate' : u.run.state = .running := by simpa [hu] using hstate
  have hactive : u.activeRecord = some r :=
    State.activeRecord_eq_some.mpr ⟨by simp [hstate'], by simpa [hu] using hphase, by simpa [hu, State.record] using hr⟩
  have hrun := State.addCauses_run (by simp [hstate']) hnew
  have hnotices := State.addCauses_notices (by simp [hstate']) hnew
  obtain ⟨hcommanded, hstir, hpoint⟩ := State.addCauses_still hstate' hnew
  rw [hunion] at hrun hnotices
  rw [hactive] at hpoint
  rw [← hu]
  refine ⟨hrun.trans (by rw [hu]), ?_, hcommanded, hstir, hpoint, ?_, ?_⟩
  · rw [hnotices, hrun]
    simp [hu, State.noticesAfter]
  · have hkept : (u.addCauses { overdue := true }).KeptByHandover u := by simp
    rw [hu] at hkept ⊢
    exact State.handoverFrame_of_kept hkept
  · exact State.eq_of_blocks (by simp [hu])

/-- Settles O47: the two ticks, TIME_DONE by its premises and by what the end decision says, and OVERDUE. -/
theorem runTimeDrivesTheStep : Obligations.RunTimeDrivesTheStep := by
  refine ⟨exec_runClockTick, exec_activeTimeTick, fun s r x hr hx => ?_, fun s => ⟨fun hquiet => ?_, ?_⟩⟩
  · have hdone := State.timeIsDone_iff hr hx
    have hexec : exec .timeDone s = .next (if s.timeIsDone then s.latch .timeDone else s) := rfl
    intro counted all
    have hreached : s.run.timeReached x = true ↔ counted := by
      simp only [counted]
      cases hstart : x.start with
      | fromEntry => exact Run.timeReached_fromEntry hstart
      | fromReached => exact Run.timeReached_fromReached hstart
    clear_value counted
    rw [← hreached]
    refine ⟨fun hquiet => ?_, fun hstate hphase hrose hnew hcounted => ?_⟩
    · by_cases hmet : .timeDone ∈ s.run.met
      · rw [hexec, State.latch_of_met hmet, ite_self]
      · rw [hexec, if_neg fun h => ?_]
        obtain ⟨hstate, hphase, hrose, hcounted⟩ := hdone.mp h
        simp [hstate, hphase, hrose, hcounted, hmet] at hquiet
    · rw [hexec, if_pos (hdone.mpr ⟨hstate, hphase, hrose, hcounted⟩)]
      have hactive : s.activeRecord = some r := State.activeRecord_eq_some.mpr ⟨by simp [hstate], hphase, hr⟩
      have hpart : .timeDone ∈ r.conditions := StepRecord.mem_conditions_timeDone.mpr (by simp [hx])
      refine ⟨fun hends => by rw [State.latch_of_staying hactive hpart hnew (.inr hends)]; rfl, fun reason hends hcursor => ?_⟩
      rw [State.latch_of_ending hactive hpart hnew hstate hends]
      obtain ⟨houtcome, hnext⟩ := State.exitStep_place (s := { s with run := { s.run with met := s.run.met ++ [.timeDone] } })
        reason hcursor
      exact ⟨_, rfl, houtcome, hnext, by simp, by simp, by simp, by simp, by simp, by simp⟩
  · have hno : ¬ s.isOverdue = true := fun h => by
      obtain ⟨hstate, hphase, hrose, htaken, -⟩ := State.isOverdue_iff.mp h
      simp [hstate, hphase, hrose, htaken] at hquiet
    exact congrArg Host.Outcome.next (if_neg hno)
  · intro r hr l hl hstate hphase hrose htaken
    refine ⟨fun hbelow => ?_, fun hreached habsent => ?_⟩
    · have hno : ¬ s.isOverdue = true := fun h => by
        obtain ⟨-, -, -, -, r', hr', l', hl', hreached⟩ := State.isOverdue_iff.mp h
        rw [Option.mem_unique hr' hr] at hl'
        rw [Option.mem_unique hl' hl] at hreached
        omega
      exact congrArg Host.Outcome.next (if_neg hno)
    · have hyes : s.isOverdue = true := State.isOverdue_iff.mpr ⟨hstate, hphase, hrose, htaken, r, hr, l, hl, hreached⟩
      exact ⟨_, congrArg Host.Outcome.next (if_pos hyes), State.overdue_holds hr hstate hphase habsent⟩

end Sys2Proof.Machine
end

section
/-! SUPPORT. A declared stall: the release of the blade, the run controller's answer and the rest (R33, R47, R127, R132). -/

namespace Sys2Proof.Machine

/-- Without a driving inverter a handover starts no ramp (R123). -/
theorem State.handStir_ramp {s : State} (h : s.blade.inverter = .off) (p : StirPoint) :
    (s.handStir p).blade.ramp = none := by
  have hoff : (s.handStir p).blade.inverter = .off := by simpa using h
  have hruns : (s.handStir p).blade.ramp.isSome = true → (s.handStir p).blade.inverter = .driving :=
    fun hsome => ((State.updateBlade_follows _).2.2.2 (.inl hsome)).1
  rw [hoff] at hruns
  simpa using hruns

@[simp] theorem State.handIdle_drive (s : State) :
    s.handIdle.blade.effective = s.blade.effective ∧ s.handIdle.blade.inverter = s.blade.inverter := by
  simp [State.handIdle]

theorem State.handIdle_ramp {s : State} (h : s.blade.inverter = .off) : s.handIdle.blade.ramp = none := by
  simpa [State.handIdle] using State.handStir_ramp h .zero

/-- A blade that is released and asked for nothing: effective level 0, no ramp, and the inverter OFF. -/
structure State.Released (s : State) : Prop where
  level : s.commandedLevel = 0
  effective : s.blade.effective = 0
  ramp : s.blade.ramp = none
  inverter : s.blade.inverter = .off

/-- The rest of a released blade: the inverter drives again where the mains and the rest allow (R127). -/
theorem State.Released.endRest {s : State} (h : s.Released) : s.endRest.blade.effective = 0 ∧
    s.endRest.blade.ramp = none ∧ s.endRest.blade.stir = s.blade.stir ∧
    (s.blade.commanded = 0 → s.endRest.blade.commanded = 0) ∧
    s.endRest.blade.inverter = if s.thermal.mains ≠ .lost ∧ s.rested = true then .driving else .off := by
  have hmains : ¬ s.mainsLost = true ↔ s.thermal.mains ≠ .lost := by simp [State.mainsLost]
  by_cases hrested : s.thermal.mains ≠ .lost ∧ s.rested = true
  · rw [State.endRest_of_rested ⟨.inr ⟨h.inverter, hmains.mpr hrested.1⟩, hrested.2⟩, if_pos hrested,
      State.updateBlade_at_rest (s := { s with blade := { s.blade with inverter := .driving } }) h.level h.effective]
    exact ⟨h.effective, rfl, rfl, fun _ => rfl, rfl⟩
  · have hoff : ¬ ((s.blade.inverter = .braking ∨ (s.blade.inverter = .off ∧ ¬ s.mainsLost = true)) ∧ s.rested = true) := by
      rintro ⟨hbraking | ⟨-, hpresent⟩, hrest⟩
      · rw [h.inverter] at hbraking
        cases hbraking
      · exact hrested ⟨hmains.mp hpresent, hrest⟩
    rw [State.endRest_of_not_rested hoff, if_neg hrested]
    exact ⟨h.effective, h.ramp, rfl, id, h.inverter⟩

/-- The blade is released and the STALL notice sent (R132). -/
def State.stallReleased (s : State) (now : Nat) : State :=
  { s with
    now := now, notices := s.noticesAfter .stall s.runIndex none
    blade := { s.blade with effective := 0, ramp := none, settle := none, inverter := .off, stallTimer := none } }

theorem exec_stall {s : State} {m : Nat} (h : s.blade.stallTimer = some m) :
    exec .stall s = .next (s.stallReleased (max s.now m)).answerStall.endRest := by
  simp only [exec, execStall, h]
  rfl

theorem State.answerStall_of_running {s : State} (h : s.run.state = .running) :
    s.answerStall = s.addCauses { stall := true } := by simp only [State.answerStall, h]

theorem State.answerStall_of_heated {s : State} (h : s.run.state = .manual) (hheat : s.run.manualHeat.isSome = true) :
    s.answerStall = State.handStir { s with run := { s.run with manualLevel := 0 } }
      { level := 0, direction := some .forward, pattern := .continuous } := by
  simp only [State.answerStall, h, if_pos hheat]

theorem State.answerStall_of_unheated {s : State} (h : s.run.state = .manual) (hheat : ¬ s.run.manualHeat.isSome = true) :
    s.answerStall = s.endManual := by
  simp only [State.answerStall, h, if_neg hheat]

theorem State.answerStall_of_other {s : State} (hrunning : s.run.state ≠ .running) (hmanual : s.run.state ≠ .manual) :
    s.answerStall = s := by
  cases hstate : s.run.state <;> simp only [hstate, ne_eq, not_true_eq_false] at hrunning hmanual <;>
    simp only [State.answerStall, hstate]

/-- STALL holds a RUNNING run (R33, R35). -/
theorem State.answerStall_running {s : State} (hstate : s.run.state = .running) (hcauses : s.run.causes = {})
    (heffective : s.blade.effective = 0) (hinverter : s.blade.inverter = .off) : s.answerStall.Released ∧
    s.answerStall.run = { s.run with state := .held, causes := { stall := true } } ∧
    s.answerStall.blade.stir = .zero ∧ s.answerStall.blade.commanded = 0 ∧
    s.answerStall.notices = s.noticesAfter .held (some s.run.cursor) (some (.causes s.answerStall.run.causes)) := by
  have hunion : s.run.causes.union { stall := true } = { stall := true } := by simp [hcauses, CauseSet.union]
  have hnew : s.run.causes.union { stall := true } ≠ s.run.causes := by
    rw [hunion, hcauses]
    decide
  have hrun := State.addCauses_run (by simp [hstate]) hnew
  have hnotices := State.addCauses_notices (by simp [hstate]) hnew
  obtain ⟨hcommanded, hstir, -⟩ := State.addCauses_still hstate hnew
  have hblade : (s.addCauses { stall := true }).blade = (s.setCauses { stall := true }).hold.blade := by
    rw [State.addCauses_of_absent (by simp [hstate]) hnew, if_pos hstate, hunion, State.send_blade]
  rw [hunion] at hrun hnotices
  rw [State.answerStall_of_running hstate]
  refine ⟨⟨?_, ?_, ?_, ?_⟩, hrun, hstir, hcommanded, by rw [hnotices, hrun]⟩
  · exact State.commandedLevel_of_not_drives (by rw [hrun]; rfl)
  · simpa [hblade, State.hold] using heffective
  · rw [hblade]
    exact State.handIdle_ramp (by simpa using hinverter)
  · simpa [hblade, State.hold] using hinverter

/-- Manual operation loses its level, and ends where no heat is set (R47). -/
theorem State.answerStall_manual {s : State} (hstate : s.run.state = .manual)
    (heffective : s.blade.effective = 0) (hinverter : s.blade.inverter = .off) : s.answerStall.Released ∧
    s.answerStall.notices = s.notices ∧ s.answerStall.blade.stir.level = 0 ∧ s.answerStall.blade.commanded = 0 ∧
    s.answerStall.run = (if s.run.manualHeat.isSome then { s.run with manualLevel := 0 }
      else { s.run with state := if s.program.length = 0 then .idle else .ready, manualLevel := 0 }) := by
  by_cases hheat : s.run.manualHeat.isSome = true
  · rw [State.answerStall_of_heated hstate hheat, if_pos hheat]
    generalize hp : ({ level := 0, direction := some .forward, pattern := .continuous } : StirPoint) = p
    obtain ⟨u, hu⟩ : ∃ u : State, u = { s with run := { s.run with manualLevel := 0 } } := ⟨_, rfl⟩
    have hstir : (u.handStir p).blade.stir.level = 0 := by simp [← hp]
    have hlevel : (u.handStir p).commandedLevel = 0 :=
      State.commandedLevel_of_asked (Blade.asked_of_level_zero hstir)
    rw [← hu]
    refine ⟨⟨hlevel, by simpa [hu] using heffective, State.handStir_ramp (by simpa [hu] using hinverter) p,
      by simpa [hu] using hinverter⟩, by simp [hu], hstir, by rw [State.handStir_commanded, hlevel], by simp [hu]⟩
  · have hnone : s.run.manualHeat = none := by simpa using hheat
    obtain ⟨hcommanded, -⟩ := s.endManual_still
    rw [State.answerStall_of_unheated hstate hheat, if_neg hheat]
    have hrun : s.endManual.run = { s.run with
        state := if s.program.length = 0 then .idle else .ready, manualLevel := 0, manualHeat := none } := by
      simp [State.endManual, State.restState]
    refine ⟨⟨State.commandedLevel_of_not_drives ?_, by simpa [State.endManual] using heffective,
      State.handIdle_ramp (by simpa using hinverter), by simpa [State.endManual] using hinverter⟩,
      by simp, by simp [State.endManual, StirPoint.zero], hcommanded, by rw [hrun, ← hnone]⟩
    rw [hrun]
    dsimp only
    split_ifs <;> rfl

/-- In the other run states a released blade is asked for nothing (R121). -/
theorem State.stallReleased_other {s : State} {now : Nat} (hrunning : s.run.state ≠ .running)
    (hmanual : s.run.state ≠ .manual) : (s.stallReleased now).answerStall = s.stallReleased now ∧
    (s.stallReleased now).Released :=
  ⟨State.answerStall_of_other hrunning hmanual,
    State.commandedLevel_of_not_drives (RunState.drives_eq_false hrunning hmanual), rfl, rfl, rfl⟩

/-- Settles O59: the release, the answer by run state, and the rest. -/
theorem stallReleasesTheBlade : Obligations.StallReleasesTheBlade := by
  refine ⟨fun s hnone => by simp only [exec, execStall, hnone], fun s m hsound hstall => ?_⟩
  dsimp only
  obtain ⟨u, hu⟩ : ∃ u : State, u = s.stallReleased (max s.now m) := ⟨_, rfl⟩
  have heffective : u.blade.effective = 0 := by rw [hu]; rfl
  have hinverter : u.blade.inverter = .off := by rw [hu]; rfl
  have hrun : u.run = s.run := by rw [hu]; rfl
  have hlength : u.program.length = s.program.length := by rw [hu]; rfl
  have hafter : u.noticesAfter = State.noticesAfter { s with notices := s.noticesAfter .stall s.runIndex none } := by
    rw [hu]; rfl
  have hreleased : u.answerStall.Released := by
    by_cases hrunning : s.run.state = .running
    · exact (State.answerStall_running (by rw [hrun, hrunning]) (by rw [hrun, hsound.causes_of_running hrunning])
        heffective hinverter).1
    · by_cases hmanual : s.run.state = .manual
      · exact (State.answerStall_manual (by rw [hrun, hmanual]) heffective hinverter).1
      · obtain ⟨hsame, hreleased⟩ := State.stallReleased_other (now := max s.now m) hrunning hmanual
        rw [← hu] at hsame hreleased
        rwa [hsame]
  obtain ⟨hlevel, hramp, hstir, hcommanded, hdrives⟩ := hreleased.endRest
  refine ⟨u.answerStall.endRest, by rw [hu, exec_stall hstall], by simp [hu, State.stallReleased], hlevel, hramp, ?_,
    fun hrunning => ?_, fun hmanual => ?_, fun hrunning hmanual => ?_, ?_, ?_⟩
  · have hmains : u.answerStall.thermal.mains = s.thermal.mains := by simp [hu, State.stallReleased]
    have hrested : u.answerStall.rested = s.blade.lastPulse.all fun l => decide (l + 1500000 ≤ max s.now m) := by
      simp only [State.rested, State.answerStall_frame, State.answerStall_kept, hu]
      rfl
    rw [hdrives, hmains, hrested]
  · obtain ⟨-, hheld, hzero, hnone, hnotices⟩ := State.answerStall_running (by rw [hrun, hrunning])
      (by rw [hrun, hsound.causes_of_running hrunning]) heffective hinverter
    rw [hafter, hrun] at hnotices
    rw [hrun] at hheld
    exact ⟨by simp [hheld], by rw [hstir, hzero], hcommanded hnone, by simpa using hnotices⟩
  · obtain ⟨-, hnotices, hzero, hnone, hmanualRun⟩ := State.answerStall_manual (by rw [hrun, hmanual]) heffective hinverter
    rw [hrun, hlength] at hmanualRun
    have hsent : u.notices = s.noticesAfter .stall s.runIndex none := by rw [hu]; rfl
    exact ⟨by simp only [State.endRest_frame, hnotices, hsent], by rw [hstir, hzero], hcommanded hnone, by simpa using hmanualRun⟩
  · obtain ⟨hsame, -⟩ := State.stallReleased_other (now := max s.now m) hrunning hmanual
    rw [← hu] at hsame
    rw [hsame]
    exact ⟨by simp [hrun], by simp [hu, State.stallReleased]⟩
  · refine State.handoverFrame_of_kept ?_
    simp [hu, State.stallReleased]
  · refine State.eq_of_blocks ?_
    simp [hu, State.stallReleased]

end Sys2Proof.Machine
end

section
/-! SUPPORT. The heater window: its end with the judgement of the budget (R109, R134, R137, R139, R140). -/

namespace Sys2Proof.Machine

/-! ## The derate and the recovery, case by case -/

theorem State.derate_of_modest {s : State} (h : ¬ s.budget.watts - 40 < s.blade.pmot) :
    s.derate = { s with budget := { s.budget with overCount := 0 } } := if_neg h

theorem State.derate_of_counting {s : State} (h : s.budget.watts - 40 < s.blade.pmot) (hcount : s.budget.overCount < 2) :
    s.derate = { s with budget := { s.budget with overCount := s.budget.overCount + 1 } } :=
  (if_pos h).trans (if_neg (by omega))

theorem State.derate_of_low {s : State} (h : s.budget.watts - 40 < s.blade.pmot) (hcount : 2 ≤ s.budget.overCount)
    (hpeak : s.budget.peak < 2) : s.derate = { s with budget := { s.budget with overCount := 0 } } :=
  ((if_pos h).trans (if_pos (by omega))).trans (if_neg (by omega))

/-- Three heavy windows in a row put the ceiling one below the peak (R139). -/
theorem State.derate_of_peak {s : State} (h : s.budget.watts - 40 < s.blade.pmot) (hcount : 2 ≤ s.budget.overCount)
    (hpeak : 2 ≤ s.budget.peak) : s.derate.notices = s.noticesAfter .budgetDerate s.runIndex none ∧
    s.derate.budget = { s.budget with overCount := 0, underCount := 0, ceiling := some (s.budget.peak - 1) } := by
  have hderate : s.derate = State.updateBlade (State.send { s with budget := { s.budget with
      overCount := 0, underCount := 0, ceiling := some (s.budget.peak - 1) } } .budgetDerate s.runIndex none) :=
    ((if_pos h).trans (if_pos (by omega))).trans (if_pos hpeak)
  rw [hderate]
  exact ⟨by simp [State.noticesAfter], by simp⟩

theorem State.recover_of_none {s : State} (h : s.budget.ceiling = none) : s.recover = s := by
  simp only [State.recover, h]

/-- A window that is not light (R140). -/
theorem State.recover_of_drawing {s : State} {c : Nat} (hc : s.budget.ceiling = some c)
    (h : ¬ 10 * s.blade.pmot < 8 * (s.budget.watts - 40)) :
    s.recover = { s with budget := { s.budget with underCount := 0 } } := by
  have hunder : s.underAfter = 0 := if_neg h
  simp [State.recover, hc, hunder]

/-- A light window that is not yet the fifth (R140). -/
theorem State.recover_of_counting {s : State} {c : Nat} (hc : s.budget.ceiling = some c)
    (h : 10 * s.blade.pmot < 8 * (s.budget.watts - 40)) (hcount : s.budget.underCount < 4) :
    s.recover = { s with budget := { s.budget with underCount := s.budget.underCount + 1 } } := by
  have hunder : s.underAfter = s.budget.underCount + 1 := (if_pos h).trans (by omega)
  simp [State.recover, hc, hunder, show s.budget.underCount ≠ 4 by omega]

/-- The fifth light window in a row, and each after it (R140, R141). -/
theorem State.recover_of_light {s : State} {c : Nat} (hc : s.budget.ceiling = some c)
    (h : 10 * s.blade.pmot < 8 * (s.budget.watts - 40)) (hcount : 4 ≤ s.budget.underCount) : s.recover.budget =
      if s.blade.stir.level ≤ c + 1 then { s.budget with ceiling := none, overCount := 0, underCount := 0 }
      else { s.budget with underCount := 5, ceiling := some (c + 1) } := by
  have hunder : s.underAfter = 5 := (if_pos h).trans (by omega)
  simp only [State.recover, hc, hunder, if_true]
  split_ifs <;> simp

/-- A window that is not light leaves the ceiling and the over count (R140). -/
theorem State.recover_of_heavy {s : State} (h : ¬ 10 * s.blade.pmot < 8 * (s.budget.watts - 40)) :
    s.recover.budget.overCount = s.budget.overCount ∧ s.recover.budget.ceiling = s.budget.ceiling ∧
    (s.budget.ceiling.isSome = true → s.recover.budget.underCount = 0) := by
  cases hc : s.budget.ceiling with
  | none => simp [State.recover_of_none hc, hc]
  | some c => simp [State.recover_of_drawing hc h, hc]

theorem State.recover_overCount {s : State} (h : s.budget.overCount = 0) : s.recover.budget.overCount = 0 := by
  cases hc : s.budget.ceiling with
  | none => rw [State.recover_of_none hc, h]
  | some c =>
    by_cases hlight : 10 * s.blade.pmot < 8 * (s.budget.watts - 40)
    · rcases Nat.lt_or_ge s.budget.underCount 4 with hfew | hmany
      · rw [State.recover_of_counting hc hlight hfew, h]
      · rw [State.recover_of_light hc hlight hmany]
        split_ifs
        · rfl
        · exact h
    · rw [State.recover_of_drawing hc hlight, h]

/-- A judgement that only counts. -/
theorem State.derate_of_quiet {s : State} (h : ¬ s.budget.watts - 40 < s.blade.pmot ∨ s.budget.overCount < 2) :
    ∃ n, s.derate = { s with budget := { s.budget with overCount := n } } := by
  by_cases hheavy : s.budget.watts - 40 < s.blade.pmot
  · exact ⟨_, State.derate_of_counting hheavy (h.resolve_left (not_not.mpr hheavy))⟩
  · exact ⟨_, State.derate_of_modest hheavy⟩

/-- The average of R134. -/
theorem Blade.averagePower_eq (b : Blade) : b.averagePower =
    if b.powerCount = 0 then 0 else (2 * b.powerSum + b.powerCount) / (2 * b.powerCount) := by
  unfold Blade.averagePower
  split_ifs
  · rfl
  · rw [roundDiv_toNat, Nat.mul_comm b.powerSum]

/-- The window with its average and its remainder, before the judgement (R134, R137). -/
def State.averaged (s : State) : State :=
  { s with
    blade := { s.blade with pmot := s.blade.averagePower, powerSum := 0, powerCount := 0 }
    budget := { s.budget with remainder := s.budget.watts - 40 - s.blade.averagePower } }

theorem State.endWindow_eq (s : State) : s.endWindow = s.averaged.derate.recover := rfl

/-- A window end touches the blade, the budget, the kind, the lid lock and the notices. -/
theorem State.endWindow_bladeFrame (s : State) :
    s.bladeFrame { s.endWindow with budget := s.budget, notices := s.notices } :=
  State.eq_of_blocks ⟨rfl, by simp, by simp, Weigh.eq_of_kind (by simp [State.endWindow]), by simp, by simp, rfl, rfl,
    by simp, by simp, rfl, by simp, Aux.eq_of_lock (by simp [State.endWindow]), by simp⟩

/-- Settles O56: the average, the heavy windows by their count and peak, and the light windows by theirs. -/
theorem windowEndJudgesTheBudget : Obligations.WindowEndJudgesTheBudget := by
  intro s
  dsimp only
  rw [← Blade.averagePower_eq, State.endWindow_eq]
  have hpmot : s.averaged.derate.recover.blade.pmot = s.blade.averagePower := by simp [State.averaged]
  have hframe := s.endWindow_bladeFrame
  rw [State.endWindow_eq] at hframe
  have hnotLight (hheavy : s.budget.watts - 40 < s.blade.averagePower) :
      ¬ 10 * s.blade.averagePower < 8 * (s.budget.watts - 40) := by omega
  refine ⟨hpmot, by simp [State.averaged], by simp [State.averaged], by simp [State.averaged], fun hheavy hcount => ?_,
    fun hmodest => ?_, fun hheavy hcount => ⟨?_, fun hpeak => ?_, fun hpeak => ?_⟩, fun hquiet => ?_, hframe⟩
  · rw [State.derate_of_counting (s := s.averaged) hheavy hcount]
    exact (State.recover_of_heavy (by exact hnotLight hheavy)).1
  · rw [State.derate_of_modest (s := s.averaged) hmodest]
    exact State.recover_overCount rfl
  · refine State.recover_overCount ?_
    rcases Nat.lt_or_ge s.averaged.budget.peak 2 with hlow | hpeak
    · rw [State.derate_of_low (s := s.averaged) hheavy hcount hlow]
    · rw [(State.derate_of_peak (s := s.averaged) hheavy hcount hpeak).2]
  · obtain ⟨hnotices, hbudget⟩ := State.derate_of_peak (s := s.averaged) hheavy hcount hpeak
    obtain ⟨-, hceiling, hunder⟩ := State.recover_of_heavy (s := s.averaged.derate) (by
      simpa [State.averaged] using hnotLight hheavy)
    rw [hbudget] at hceiling hunder
    have hkept : s.averaged.derate.recover.notices = s.averaged.derate.notices := by simp
    exact ⟨hceiling, hunder rfl, hkept.trans hnotices⟩
  · rw [State.derate_of_low (s := s.averaged) hheavy hcount hpeak]
    exact ⟨(State.recover_of_heavy (by exact hnotLight hheavy)).2.1, by simp [State.averaged]⟩
  · obtain ⟨n, hn⟩ := State.derate_of_quiet (s := s.averaged) hquiet
    rw [hn]
    refine ⟨by simp [State.averaged], fun hnone => ?_, fun c hc => ⟨fun hdrawing => ?_, fun hlight hfew => ?_,
      fun hlight hmany => ?_⟩⟩
    · rw [State.recover_of_none (by exact hnone)]
      exact hnone
    · rw [State.recover_of_drawing (by exact hc) (by exact hdrawing)]
      exact ⟨hc, rfl⟩
    · rw [State.recover_of_counting (by exact hc) (by exact hlight) (by exact hfew)]
      exact ⟨hc, rfl⟩
    · rw [State.recover_of_light (by exact hc) (by exact hlight) (by exact hmany)]
      by_cases hlevel : s.blade.stir.level ≤ c + 1
      · simp [State.averaged, hlevel]
      · simp [State.averaged, hlevel]

end Sys2Proof.Machine
end

section
/-! SUPPORT. The heater window: its cycles, its start and the TEMP_REACHED test (R102, R103, R108 to R114). -/

namespace Sys2Proof.Machine

/-- Heat is enabled, as R110 states it. -/
theorem State.heatEnabled_iff {s : State} : s.heatEnabled = true ↔
    s.safety.stopLatch = false ∧ s.safety.heatPermit.active = true ∧ s.safety.lidClosed.active = true ∧
    s.safety.lease = .live ∧ (∃ x, s.thermal.base = .valid x) ∧ (∃ x, s.thermal.element = .valid x) ∧
    s.thermal.mains ≠ .lost ∧ s.thermal.hot = false ∧
    (s.run.state = .running ∨ s.run.state = .held ∨ s.run.state = .manual) := by
  have hvalid (r : Reading) : r.isValid = true ↔ ∃ x, r = .valid x := by
    cases r <;> simp [Reading.isValid]
  simp only [State.heatEnabled, State.leaseLive, State.mainsLost, Bool.and_eq_true, Bool.or_eq_true, Bool.not_eq_true',
    decide_eq_true_eq, decide_eq_false_iff_not, RunState.inRun_iff, hvalid]
  tauto

theorem StepRecord.mem_conditions_tempReached {r : StepRecord} : .tempReached ∈ r.conditions ↔ r.heat.isSome = true := by
  simp only [StepRecord.conditions]
  split_ifs <;> simp_all

/-- Without a Heat part or a base temperature there is nothing to test (R108). -/
theorem State.testTemp_of_none {s : State} (h : s.activeRecord.bind StepRecord.heat = none ∨ s.thermal.tb = none) :
    s.testTemp = s := by
  unfold State.testTemp
  rcases h with h | h
  · simp only [h]
  · simp only [h]
    cases s.activeRecord.bind StepRecord.heat <;> rfl

theorem State.testTemp_of_some {s : State} {h : HeatPart} {x : Int} (hheat : s.activeRecord.bind StepRecord.heat = some h)
    (hx : s.thermal.tb = some x) :
    s.testTemp = if (h.target : Int) - 10 ≤ x then s.latch .tempReached else s := by
  simp only [State.testTemp, hheat, hx]

theorem State.testTemp_of_met {s : State} (h : .tempReached ∈ s.run.met) : s.testTemp = s := by
  cases hheat : s.activeRecord.bind StepRecord.heat with
  | none => exact State.testTemp_of_none (.inl hheat)
  | some p =>
    cases hx : s.thermal.tb with
    | none => exact State.testTemp_of_none (.inr hx)
    | some x => rw [State.testTemp_of_some hheat hx, State.latch_of_met h, ite_self]

/-- The stages 3 to 6 of a window start (R111 to R114). -/
theorem State.grantWindow_values (u : State) :
    u.grantWindow = { u with thermal := { u.thermal with
      grant := u.grantWindow.thermal.grant, duty := u.grantWindow.thermal.duty, gate := u.grantWindow.thermal.gate
      vent := u.grantWindow.thermal.vent } } ∧
    u.grantWindow.thermal.grant = (if u.grantWindow.heatEnabled then
      min (heaterRequest u.grantWindow.thermal.setPoint u.grantWindow.thermal.tb)
        (min u.thermal.rating (min u.safety.limit u.budget.remainder)) else 0) ∧
    u.grantWindow.thermal.duty = (if u.grantWindow.thermal.grant = 0 then 0
      else min 50 (roundDiv (u.grantWindow.thermal.grant * 50 : Nat)
        (u.thermal.volts.getD 0 * u.thermal.volts.getD 0 / u.thermal.rh)).toNat) ∧
    u.grantWindow.thermal.gate = decide (u.grantWindow.thermal.duty = 50 ∧ 0 < u.grantWindow.thermal.grant) := by
  have hgrant : u.grantWindow.thermal.grant = u.computedGrant := by simp [State.grantWindow]
  have hduty : u.grantWindow.thermal.duty = dutyOf u.computedGrant u.thermal.fullPower := by simp [State.grantWindow]
  have hclamped : u.grantWindow.thermal.duty = (if u.grantWindow.thermal.grant = 0 then 0
      else min 50 (roundDiv (u.grantWindow.thermal.grant * 50 : Nat)
        (u.thermal.volts.getD 0 * u.thermal.volts.getD 0 / u.thermal.rh)).toNat) := by
    rw [hduty, hgrant, dutyOf, clampNat_eq_max_min (by decide), Nat.max_eq_right (Nat.zero_le _)]
    rfl
  have hbelow : u.grantWindow.thermal.duty ≤ 50 := by
    rw [hclamped]
    split_ifs
    · exact Nat.zero_le _
    · exact Nat.min_le_left _ _
  refine ⟨rfl, hgrant, hclamped, ?_⟩
  have hgate : u.grantWindow.thermal.gate = (Machine.marked 0 u.grantWindow.thermal.duty && u.heatEnabled &&
      decide (0 < u.grantWindow.thermal.grant)) := rfl
  have henabled : 0 < u.grantWindow.thermal.grant → u.heatEnabled = true := by
    rw [hgrant]
    exact u.computedGrant_bounds.2.2.2.2
  have hmarked : Machine.marked 0 u.grantWindow.thermal.duty = decide (u.grantWindow.thermal.duty = 50) := by
    generalize u.grantWindow.thermal.duty = d at hbelow
    simp only [Machine.marked]
    exact decide_eq_decide.mpr (by omega)
  rw [hgate, hmarked, Bool.eq_iff_iff]
  simp only [Bool.and_eq_true, decide_eq_true_eq]
  exact ⟨fun ⟨⟨hfull, _⟩, hpos⟩ => ⟨hfull, hpos⟩, fun ⟨hfull, hpos⟩ => ⟨⟨hfull, henabled hpos⟩, hpos⟩⟩

theorem State.grantWindow_kept (u : State) : u.grantWindow.thermal.table = u.thermal.table ∧
    u.grantWindow.thermal.rh = u.thermal.rh ∧ u.grantWindow.thermal.rating = u.thermal.rating ∧
    u.grantWindow.thermal.kmains = u.thermal.kmains ∧ u.grantWindow.thermal.base = u.thermal.base ∧
    u.grantWindow.thermal.element = u.thermal.element ∧ u.grantWindow.thermal.cell = u.thermal.cell ∧
    u.grantWindow.thermal.baseHistory = u.thermal.baseHistory ∧ u.grantWindow.thermal.hot = u.thermal.hot ∧
    u.grantWindow.thermal.mains = u.thermal.mains ∧ u.grantWindow.thermal.volts = u.thermal.volts ∧
    u.grantWindow.thermal.timerDue = u.thermal.timerDue :=
  ⟨rfl, rfl, rfl, rfl, rfl, rfl, rfl, rfl, rfl, rfl, rfl, rfl⟩

/-! ## The budget beside the derate -/

/-- Left by the run controller: all of the budget but the derate's ceiling and counts. -/
@[simp] abbrev Budget.KeptButDerate (t s : Budget) : Prop :=
  t.watts = s.watts ∧ t.remainder = s.remainder ∧ t.peak = s.peak

@[simp] theorem State.enterStep_budget (s : State) : s.enterStep.budget.KeptButDerate s.budget := by
  unfold State.enterStep
  split <;> simp

@[simp] theorem State.arrive_budget (s : State) : s.arrive.budget.KeptButDerate s.budget := by
  unfold State.arrive
  split <;> simp

@[simp] theorem State.proceed_budget (s : State) : s.proceed.budget.KeptButDerate s.budget := by
  unfold State.proceed
  split <;> simp

@[simp] theorem State.exitStep_budget (s : State) (e : EndReason) : (s.exitStep e).budget.KeptButDerate s.budget := by
  simp [State.exitStep]

@[simp] theorem State.decideEnd_budget (s : State) : s.decideEnd.budget.KeptButDerate s.budget := by
  unfold State.decideEnd
  split
  · split <;> simp
  · simp

@[simp] theorem State.latch_budget (s : State) (c : Condition) : (s.latch c).budget.KeptButDerate s.budget := by
  unfold State.latch
  split <;> simp

@[simp] theorem State.testTemp_budget (s : State) : s.testTemp.budget.KeptButDerate s.budget := by
  unfold State.testTemp
  split
  · split <;> simp
  · simp

/-! ## The window -/

/-- The window's start before the TEMP_REACHED test (R109, R114, R134, R136). -/
def State.windowBegun (s : State) : State :=
  { s with
    thermal := { s.thermal with cycle := some 0, gate := false }
    blade := { s.blade with powerSum := 0, powerCount := 0 }
    budget := { s.budget with peak := s.blade.effective }
    converter := Converter.arrive { s.converter.recall s.now with mains := true, mainsLive := true } s.now }

theorem State.windowBegun_eq {s : State} {now effective : Nat} {c : Converter} (hnow : s.now = now)
    (heffective : s.blade.effective = effective) (hconverter : s.converter = c) : s.windowBegun = { s with
      thermal := { s.thermal with cycle := some 0, gate := false }
      blade := { s.blade with powerSum := 0, powerCount := 0 }
      budget := { s.budget with peak := effective }
      converter := Converter.arrive { c.recall now with mains := true, mainsLive := true } now } := by
  subst hnow heffective hconverter
  rfl

theorem State.startWindow_eq (s : State) : s.startWindow = s.windowBegun.testTemp.grantWindow := rfl

/-- The next cycle of a window (R109, R113). -/
theorem State.beginCycle_of_within {s : State} {k : Nat} (hk : s.thermal.cycle = some k) (hless : k + 1 < 50) :
    s.beginCycle = { s with thermal := { s.thermal with cycle := some (k + 1), gate := s.fires (k + 1) } } := by
  unfold State.beginCycle
  simp only [hk]
  exact if_pos hless

/-- The window in progress, ended where there is one (R109, R137). -/
def State.judged (s : State) : State := if s.thermal.cycle.isSome then s.endWindow else s

theorem State.beginCycle_of_over {s : State} (h : ∀ k, s.thermal.cycle = some k → 50 ≤ k + 1) :
    s.beginCycle = s.judged.startWindow := by
  unfold State.beginCycle State.judged
  cases hk : s.thermal.cycle with
  | none => rfl
  | some k => exact (if_neg (Nat.not_lt.mpr (h k hk))).trans rfl

/-- What the end of a window leaves (R134, R137). -/
theorem State.judged_kept (s : State) : s.judged.now = s.now ∧ s.judged.program = s.program ∧ s.judged.run = s.run ∧
    s.judged.log = s.log ∧ s.judged.thermal = s.thermal ∧ s.judged.converter = s.converter ∧
    s.judged.safety = s.safety ∧ s.judged.bus = s.bus ∧ s.judged.pending = s.pending ∧
    s.judged.weigh.KeptButKind s.weigh ∧ s.judged.blade.effective = s.blade.effective ∧
    s.judged.budget.watts = s.budget.watts := by
  unfold State.judged
  split_ifs
  · simp [State.endWindow]
  · simp

/-- The average and the remainder after the judgement (R134, R137). -/
theorem State.judged_power (s : State) :
    (s.thermal.cycle.isSome = true → s.judged.blade.pmot = s.blade.averagePower ∧
      s.judged.budget.remainder = s.budget.watts - 40 - s.blade.averagePower) ∧
    (s.thermal.cycle.isSome = false → s.judged.blade.pmot = s.blade.pmot ∧
      s.judged.budget.remainder = s.budget.remainder) := by
  unfold State.judged
  refine ⟨fun h => ?_, fun h => ?_⟩
  · rw [if_pos h]
    simp [State.endWindow_eq, State.averaged]
  · rw [if_neg (by simp [h])]
    exact ⟨rfl, rfl⟩

/-! ## The crossing -/

theorem countedPeriod_iff {period : Nat} : countedPeriod period = true ↔ 46155 ≤ period ∧ period ≤ 66666 := by
  simp only [countedPeriod, Bool.and_eq_true, decide_eq_true_eq]
  exact Iff.rfl

theorem exec_crossing_of_uncounted {s : State} {dt : Nat}
    (h : ¬ ∃ c ∈ s.thermal.lastCrossing, 46155 ≤ s.now + 3 * dt - c ∧ s.now + 3 * dt - c ≤ 66666) :
    exec (.mainsZeroCrossing dt) s = .next
      { s with now := s.now + 3 * dt, thermal := { s.thermal with lastCrossing := some (s.now + 3 * dt) } } := by
  simp only [exec, execMainsZeroCrossing, State.after_eq]
  cases hc : s.thermal.lastCrossing with
  | none => rfl
  | some c =>
    have hnot : ¬ countedPeriod (s.now + 3 * dt - c) = true := fun hcounted =>
      h ⟨c, hc, countedPeriod_iff.mp hcounted⟩
    exact congrArg Host.Outcome.next (if_neg hnot)

/-- The part at a counted crossing, before the cycle begins (R102, R103). -/
def State.crossed (s : State) (now : Nat) : State :=
  { s with now := now, thermal := { s.thermal with
      lastCrossing := some now, lastPeriod := some (now - s.thermal.lastCrossing.getD 0)
      lossTimer := some (now + 3 * (now - s.thermal.lastCrossing.getD 0)) } }

theorem exec_crossing_of_counted {s : State} {dt : Nat}
    (h : ∃ c ∈ s.thermal.lastCrossing, 46155 ≤ s.now + 3 * dt - c ∧ s.now + 3 * dt - c ≤ 66666) :
    exec (.mainsZeroCrossing dt) s = .next (s.crossed (s.now + 3 * dt)).beginCycle := by
  obtain ⟨c, hc, hcounted⟩ := h
  have hlast : s.thermal.lastCrossing = some c := hc
  simp only [exec, execMainsZeroCrossing, State.after_eq, State.crossed, hlast]
  exact congrArg Host.Outcome.next (if_pos (countedPeriod_iff.mpr hcounted))

theorem State.fires_crossed {s : State} (now k : Nat) : (s.crossed now).fires (k + 1) =
    decide (((k + 2) * s.thermal.duty / 50 - (k + 1) * s.thermal.duty / 50 = 1) ∧ s.heatEnabled = true ∧
      0 < s.thermal.grant) := by
  have hmarked : (s.crossed now).fires (k + 1) = (decide ((k + 2) * s.thermal.duty / 50 - (k + 1) * s.thermal.duty / 50 = 1) &&
      s.heatEnabled && decide (0 < s.thermal.grant)) := rfl
  rw [hmarked, Bool.eq_iff_iff]
  simp only [Bool.and_eq_true, decide_eq_true_eq, and_assoc]

/-- The TEMP_REACHED test, by its premises and by what the end decision says (R27, R29, R30, R108). -/
theorem State.testTemp_latches {s : State} {r : StepRecord} {h : HeatPart} {x : Int} (hr : s.activeRecord = some r)
    (hheat : r.heat = some h) (hx : s.thermal.tb = some x) (hreached : (h.target : Int) - 10 ≤ x)
    (hnew : .tempReached ∉ s.run.met) :
    (s.run.state = .held ∨ r.ends (s.run.met ++ [.tempReached]) = none → s.testTemp = { s with
      run := { s.run with met := s.run.met ++ [.tempReached], reached := some s.run.active } }) ∧
    ∀ reason ∈ r.ends (s.run.met ++ [.tempReached]), s.run.state = .running →
      s.run.cursor < s.program.results.length →
      s.testTemp.outcomeAt s.run.cursor = some (.completed, some reason) ∧
      s.testTemp.run.cursor = s.run.cursor + 1 := by
  have hpart : .tempReached ∈ r.conditions := StepRecord.mem_conditions_tempReached.mpr (by simp [hheat])
  have htest : s.testTemp = s.latch .tempReached := by
    rw [State.testTemp_of_some (h := h) (by simp [hr, hheat]) hx, if_pos hreached]
  rw [htest]
  refine ⟨fun hstays => State.latch_of_staying hr hpart hnew hstays, fun reason hends hstate hcursor => ?_⟩
  rw [State.latch_of_ending hr hpart hnew hstate hends]
  exact State.exitStep_place (s := { s with run := { s.run with
    met := s.run.met ++ [.tempReached], reached := if Condition.tempReached = .tempReached then some s.run.active
      else s.run.reached } }) reason hcursor

/-- A counted crossing leaves the tables, the readings and the mains state. -/
theorem Thermal.eq_of_crossed {t u : Thermal} (h : u.table = t.table ∧ u.rh = t.rh ∧ u.rating = t.rating ∧
    u.kmains = t.kmains ∧ u.base = t.base ∧ u.element = t.element ∧ u.cell = t.cell ∧ u.baseHistory = t.baseHistory ∧
    u.hot = t.hot ∧ u.mains = t.mains ∧ u.volts = t.volts ∧ u.timerDue = t.timerDue) : u = { t with
      lastCrossing := u.lastCrossing, lastPeriod := u.lastPeriod, lossTimer := u.lossTimer, setPoint := u.setPoint
      cycle := u.cycle, grant := u.grant, duty := u.duty, gate := u.gate, vent := u.vent } := by
  obtain ⟨⟩ := u
  simp_all

/-- The test of a window start keeps what the window has begun with (R114). -/
theorem State.windowTested_kept (j : State) : j.windowBegun.testTemp.KeptByRun j.windowBegun ∧
    j.windowBegun.testTemp.budget.KeptButDerate j.windowBegun.budget ∧
    (j.stepActive = false → j.windowBegun.testTemp = j.windowBegun) := by
  refine ⟨State.testTemp_kept _, State.testTemp_budget _, fun hquiet => State.testTemp_of_none (.inl ?_)⟩
  have hnone : j.windowBegun.activeRecord = none := if_neg (by
    have hsame : j.windowBegun.stepActive = j.stepActive := rfl
    simp [hsame, hquiet])
  simp [hnone]

/-- Settles O55: heat enable, the TEMP_REACHED test, and the crossing: uncounted, in a window, or at its start. -/
theorem crossingsDriveTheWindow : Obligations.CrossingsDriveTheWindow := by
  refine ⟨fun s => State.heatEnabled_iff, fun s => ⟨fun hquiet => ?_, fun r hr h hheat x hx => ⟨fun hless => ?_,
    fun hreached hnew => ?_⟩⟩, ?_⟩
  · rcases hquiet with hnone | hnone | hmet
    · exact State.testTemp_of_none (.inl hnone)
    · exact State.testTemp_of_none (.inr hnone)
    · exact State.testTemp_of_met hmet
  · have hpart : s.activeRecord.bind StepRecord.heat = some h := Option.bind_eq_some_iff.mpr ⟨r, hr, hheat⟩
    rw [State.testTemp_of_some hpart hx, if_neg (by omega)]
  · obtain ⟨hstays, hends⟩ := State.testTemp_latches hr hheat hx hreached hnew
    refine ⟨hstays, fun reason hreason hstate hcursor => ?_⟩
    obtain ⟨houtcome, hnext⟩ := hends reason hreason hstate hcursor
    exact ⟨houtcome, hnext, by simp, by simp, by simp, by simp, by simp, by simp⟩
  intro dt s now counted period s1
  refine ⟨exec_crossing_of_uncounted, fun hcounted k hk hless => ?_, fun hcounted hover => ?_⟩
  · rw [exec_crossing_of_counted hcounted, State.beginCycle_of_within (s := s.crossed (s.now + 3 * dt)) hk hless,
      State.fires_crossed]
    rfl
  · intro ended pmot judged started tested
    obtain ⟨hnow, hprogram, hrun, hlog, hthermal, hconverter, hsafety, hbus, hpending, hweigh, heffective, hwatts⟩ :
        judged.now = now ∧ judged.program = s.program ∧ judged.run = s.run ∧ judged.log = s.log ∧
        judged.thermal = s1.thermal ∧ judged.converter = s.converter ∧ judged.safety = s.safety ∧
        judged.bus = s.bus ∧ judged.pending = s.pending ∧ judged.weigh.KeptButKind s.weigh ∧
        judged.blade.effective = s.blade.effective ∧ judged.budget.watts = s.budget.watts :=
      (s.crossed now).judged_kept
    have hended : ended = true → judged.blade.pmot = s.blade.averagePower ∧
        judged.budget.remainder = s.budget.watts - 40 - s.blade.averagePower := (s.crossed now).judged_power.1
    have hnew : ended = false → judged.blade.pmot = s.blade.pmot ∧ judged.budget.remainder = s.budget.remainder :=
      (s.crossed now).judged_power.2
    have hexec : exec (.mainsZeroCrossing dt) s = .next judged.windowBegun.testTemp.grantWindow := by
      rw [exec_crossing_of_counted hcounted, State.beginCycle_of_over (s := s.crossed now) hover, State.startWindow_eq]
      rfl
    clear_value judged
    have hstarted : started = judged.windowBegun := (State.windowBegun_eq hnow heffective hconverter).symm
    have htested : tested = judged.windowBegun.testTemp := congrArg State.testTemp hstarted
    obtain ⟨hkept, hbudget, hquiet⟩ := judged.windowTested_kept
    rw [← htested] at hkept hbudget hquiet hexec
    have hconverterNow : tested.converter =
        Converter.arrive { s.converter.recall now with mains := true, mainsLive := true } now := by
      simp [tested, started]
    obtain ⟨hframe, hgrant, hduty, hgate⟩ := tested.grantWindow_values
    clear_value tested started
    obtain ⟨hprogramKept, hlogKept, hthermalKept, hweighKept, hbladeKept, hauxKept⟩ := hkept
    have hheat : tested.thermal.Kept { s1.thermal with cycle := some 0, gate := false } := by
      rw [← hthermal]
      exact hthermalKept
    have ⟨_, hrh, hrating, _, _, _, _, _, _, _, hcrossing, hperiod, hvolts, hloss, hcycle, _⟩ := hheat
    refine ⟨tested.grantWindow, hexec, hframe, ?_, ?_, ?_, ?_, ?_, ?_, ?_, ?_, fun h => ?_, fun h => ?_, ?_, ?_, ?_, ?_, hgate,
      fun hactive => ?_, ?_⟩
    · simp [htested, State.windowBegun, hnow]
    · exact (congrArg (fun u : State => u.thermal.cycle) hframe).trans hcycle
    · exact (congrArg (fun u : State => u.thermal.lastCrossing) hframe).trans hcrossing
    · exact (congrArg (fun u : State => u.thermal.lastPeriod) hframe).trans hperiod
    · exact (congrArg (fun u : State => u.thermal.lossTimer) hframe).trans hloss
    · simpa using hconverterNow
    · simp [htested, State.windowBegun]
    · simp [htested, State.windowBegun]
    · simp [htested, State.windowBegun, hended h, pmot, Blade.averagePower_eq]
    · simp [htested, State.windowBegun, hnew h]
    · simp [htested, State.windowBegun, heffective]
    · simp [htested, State.windowBegun, hwatts]
    · have hbudgetSame : tested.grantWindow.budget = tested.budget := by simp
      have hsafetySame : tested.safety = s.safety := by simp [htested, State.windowBegun, hsafety]
      rw [hgrant, hrating, hsafetySame, hbudgetSame]
    · rw [hduty, hvolts, hrh]
    · have hsame : tested = judged.windowBegun := hquiet (by rw [← hactive, State.stepActive, State.stepActive, hrun])
      refine ⟨?_, ?_, ?_, ?_⟩
      · simp [hsame, State.windowBegun, hrun]
      · simp [hsame, State.windowBegun, hprogram]
      · simp [hsame, State.windowBegun, hlog]
      · refine (congrArg (fun u : State => u.thermal.setPoint) hframe).trans ?_
        simp [hsame, State.windowBegun, hthermal, s1]
    · have hthermalFrame := Thermal.eq_of_crossed (t := s.thermal) (u := tested.grantWindow.thermal) (by
        simp [State.grantWindow_kept, hheat, s1])
      exact State.eq_of_blocks ⟨by simp [htested, State.windowBegun, hnow], rfl, rfl,
        Weigh.eq_of_kept (by simp [htested, State.windowBegun, hweigh]) rfl rfl, rfl, hthermalFrame, rfl, rfl, rfl,
        by simp [htested, State.windowBegun, hsafety], rfl, by simp [htested, State.windowBegun, hbus], rfl,
        by simp [htested, State.windowBegun, hpending]⟩

end Sys2Proof.Machine
end

section
/-! SUPPORT. The step record as PUT STEP reads it, part by part, and the store (R2 to R9, R12, R13, R199, 12.3). -/

namespace Sys2Proof.Machine

/-! ## Numbers brought into their ranges -/

theorem outside_eq_false_iff {lo hi x : Nat} : outside lo hi x = false ↔ within lo hi x := by
  simp only [outside, Bool.or_eq_false_iff, decide_eq_false_iff_not, Nat.not_lt]

/-- A number is changed by its clamp exactly where it is outside its range (R9). -/
theorem max_min_bne {lo hi : Nat} (h : lo ≤ hi) (x : Nat) : (max lo (min hi x) != x) = outside lo hi x := by
  rw [Bool.eq_iff_iff]
  simp only [outside, bne_iff_ne, Bool.or_eq_true, decide_eq_true_eq]
  omega

theorem max_min_of_within {lo hi x : Nat} (h : within lo hi x) : max lo (min hi x) = x := by
  obtain ⟨hlo, hhi⟩ := h
  omega

/-! ## The choices of a record -/

theorem endModeOf_eq (flags : Byte) : endModeOf flags =
    if 2 ≤ flags.toNat % 4 then none else some (if flags.toNat % 4 = 0 then .any else .all) := by
  unfold endModeOf
  have hlt : flags.toNat % 4 < 4 := Nat.mod_lt _ (by decide)
  generalize flags.toNat % 4 = m at hlt
  interval_cases m <;> rfl

theorem directionOf_eq (mode : Byte) : directionOf mode =
    if 2 ≤ mode.toNat % 4 then none else some (if mode.toNat % 4 = 1 then .reverse else .forward) := by
  unfold directionOf
  have hlt : mode.toNat % 4 < 4 := Nat.mod_lt _ (by decide)
  generalize mode.toNat % 4 = m at hlt
  interval_cases m <;> rfl

theorem patternOf_eq (mode on off : Byte) : patternOf mode on off =
    if mode.toNat / 4 % 4 = 3 then none else some
      (if mode.toNat / 4 % 4 = 1 then .interval (max 1 (min 60 on.toNat)) (max 1 (min 60 off.toNat))
      else if mode.toNat / 4 % 4 = 2 then .knead else .continuous) := by
  unfold patternOf
  simp only [clampNat_eq_max_min (show 1 ≤ 60 by decide)]
  have hlt : mode.toNat / 4 % 4 < 4 := Nat.mod_lt _ (by decide)
  generalize mode.toNat / 4 % 4 = m at hlt
  interval_cases m <;> rfl

theorem timeStartOf_eq (b : Byte) : timeStartOf b =
    if 2 ≤ b.toNat then none else some (if b.toNat = 1 then .fromReached else .fromEntry) := by
  unfold timeStartOf
  generalize b.toNat = n
  match n with
  | 0 => rfl
  | 1 => rfl
  | n + 2 =>
    rw [if_pos (by omega)]
    rfl

/-! ## The parts, as stored and as faults -/

/-- A written Heat part as it is stored (R3, R9). -/
def heatStored (h : Half × Half × Byte) : HeatPart :=
  { target := max 300 (min 1600 h.1.toNat), cap := max 50 (min 1500 h.2.1.toNat)
    band := if h.2.2.toNat = 0 then 50 else max 10 (min 200 h.2.2.toNat) }

/-- A number of a written Heat part is outside its range (R9). -/
def heatOutside (h : Half × Half × Byte) : Bool :=
  outside 300 1600 h.1.toNat || outside 50 1500 h.2.1.toNat ||
    (decide (h.2.2.toNat ≠ 0) && outside 10 200 h.2.2.toNat)

/-- The mode byte of a written Stir part asks for REVERSE or KNEAD (R4). -/
def stirSlow (t : Byte × Byte × Byte × Byte) : Bool :=
  decide (t.2.1.toNat % 4 = 1) || decide (t.2.1.toNat / 4 % 4 = 2)

/-- The mode byte of a written Stir part names no direction or no pattern (R8). -/
def stirFaulty (t : Byte × Byte × Byte × Byte) : Bool :=
  decide (2 ≤ t.2.1.toNat % 4) || decide (t.2.1.toNat / 4 % 4 = 3)

/-- A written Stir part as it is stored (R4, R9). -/
def stirStored (t : Byte × Byte × Byte × Byte) : StirPart :=
  { level := max 1 (min (if stirSlow t then 4 else 12) t.1.toNat)
    direction := if t.2.1.toNat % 4 = 1 then .reverse else .forward
    pattern := if t.2.1.toNat / 4 % 4 = 1 then
        .interval (max 1 (min 60 t.2.2.1.toNat)) (max 1 (min 60 t.2.2.2.toNat))
      else if t.2.1.toNat / 4 % 4 = 2 then .knead else .continuous }

/-- A number of a written Stir part is outside its range (R9). -/
def stirOutside (t : Byte × Byte × Byte × Byte) : Bool :=
  outside 1 (if stirSlow t then 4 else 12) t.1.toNat ||
    (decide (t.2.1.toNat / 4 % 4 = 1) && (outside 1 60 t.2.2.1.toNat || outside 1 60 t.2.2.2.toNat))

/-- A written Weigh part as it is stored (R5, R9). -/
def weighStored (x : Tri × Half) : WeighPart :=
  { target := max 10 (min 100000 x.1.toNat), tolerance := min 5000 x.2.toNat }

/-- A number of a written Weigh part is outside its range (R9). -/
def weighOutside (x : Tri × Half) : Bool := outside 10 100000 x.1.toNat || outside 0 5000 x.2.toNat

/-- A written Time part as it is stored (R6, R9). -/
def timeStored (t : Half × Byte) : TimePart :=
  { duration := max 1 (min 14400 t.1.toNat), start := if t.2.toNat = 1 then .fromReached else .fromEntry }

/-- The highest level of a written Stir part (R4). -/
theorem topLevel_stirStored (t : Byte × Byte × Byte × Byte) :
    topLevel (stirStored t).direction (stirStored t).pattern = if stirSlow t then 4 else 12 := by
  unfold topLevel
  have hdirection : (stirStored t).direction = .reverse ↔ t.2.1.toNat % 4 = 1 := by
    unfold stirStored
    split_ifs <;> simp_all
  have hpattern : (stirStored t).pattern = .knead ↔ t.2.1.toNat / 4 % 4 = 2 := by
    unfold stirStored
    split_ifs <;> simp_all
  simp only [hdirection, hpattern, stirSlow, Bool.or_eq_true, decide_eq_true_eq]

theorem readHeat_written (o : Option (Half × Half × Byte)) (rest : List Byte) :
    readHeat o.isSome ((o.map heatPartBytes).getD [] ++ rest) = some (o.map heatStored, o.any heatOutside, rest) := by
  cases o with
  | none => rfl
  | some h =>
    obtain ⟨t, c, b⟩ := h
    have hread : readHeat true (heatPartBytes (t, c, b) ++ rest) = some (some
        ⟨max 300 (min 1600 t.toNat), max 50 (min 1500 c.toNat), max 10 (min 200 (if b.toNat = 0 then 50 else b.toNat))⟩,
        decide ((⟨max 300 (min 1600 t.toNat), max 50 (min 1500 c.toNat),
          max 10 (min 200 (if b.toNat = 0 then 50 else b.toNat))⟩ : HeatPart) ≠
            ⟨t.toNat, c.toNat, if b.toNat = 0 then 50 else b.toNat⟩), rest) := by
      simp only [readHeat, heatPartBytes, halfBytes, List.cons_append, List.nil_append, halfOf_halfBytes, if_true,
        clampNat_eq_max_min (show 300 ≤ 1600 by decide), clampNat_eq_max_min (show 50 ≤ 1500 by decide),
        clampNat_eq_max_min (show 10 ≤ 200 by decide)]
      rfl
    have hband : max 10 (min 200 (if b.toNat = 0 then 50 else b.toNat)) =
        if b.toNat = 0 then 50 else max 10 (min 200 b.toNat) := by
      split_ifs <;> rfl
    have hclamped : decide ((⟨max 300 (min 1600 t.toNat), max 50 (min 1500 c.toNat),
        max 10 (min 200 (if b.toNat = 0 then 50 else b.toNat))⟩ : HeatPart) ≠
          ⟨t.toNat, c.toNat, if b.toNat = 0 then 50 else b.toNat⟩) = heatOutside (t, c, b) := by
      rw [Bool.eq_iff_iff]
      simp only [heatOutside, outside, ne_eq, HeatPart.mk.injEq, Bool.or_eq_true, Bool.and_eq_true, decide_eq_true_eq]
      by_cases hb : b.toNat = 0
      · simp only [if_pos hb]
        omega
      · simp only [if_neg hb]
        omega
    rw [hclamped, hband] at hread
    exact hread

theorem readStir_written (o : Option (Byte × Byte × Byte × Byte)) (rest : List Byte) :
    readStir o.isSome ((o.map stirPartBytes).getD [] ++ rest) =
      if o.any stirFaulty then none else some (o.map stirStored, o.any stirOutside, rest) := by
  cases o with
  | none => rfl
  | some t =>
    obtain ⟨l, m, x, y⟩ := t
    have hread : readStir true (stirPartBytes (l, m, x, y) ++ rest) =
        if stirFaulty (l, m, x, y) then none
        else some (some (stirStored (l, m, x, y)), stirOutside (l, m, x, y), rest) := by
      simp only [readStir, stirPartBytes, List.cons_append, List.nil_append, if_true, directionOf_eq, patternOf_eq]
      by_cases hd : 2 ≤ m.toNat % 4
      · simp [stirFaulty, hd]
      by_cases hp : m.toNat / 4 % 4 = 3
      · simp [stirFaulty, hp]
      simp only [stirFaulty, hd, hp, decide_false, Bool.or_self, Bool.false_eq_true, if_false]
      have htop := topLevel_stirStored (l, m, x, y)
      simp only [stirStored] at htop
      have hone : 1 ≤ if stirSlow (l, m, x, y) then 4 else 12 := by split_ifs <;> decide
      simp only [htop, clampNat_eq_max_min hone, max_min_bne hone]
      by_cases hinterval : m.toNat / 4 % 4 = 1
      · simp only [stirStored, stirOutside, hinterval, if_true, max_min_bne (show 1 ≤ 60 by decide), decide_true,
          Bool.true_and]
      · by_cases hknead : m.toNat / 4 % 4 = 2 <;>
          simp [stirStored, stirOutside, hinterval, hknead]
    exact hread

theorem readWeigh_written (o : Option (Tri × Half)) (rest : List Byte) :
    readWeigh o.isSome ((o.map weighPartBytes).getD [] ++ rest) =
      some (o.map weighStored, o.any weighOutside, rest) := by
  cases o with
  | none => rfl
  | some x =>
    obtain ⟨t, o⟩ := x
    have hread : readWeigh true (weighPartBytes (t, o) ++ rest) = some (some
        ⟨max 10 (min 100000 t.toNat), max 0 (min 5000 o.toNat)⟩,
        decide ((⟨max 10 (min 100000 t.toNat), max 0 (min 5000 o.toNat)⟩ : WeighPart) ≠ ⟨t.toNat, o.toNat⟩), rest) := by
      simp only [readWeigh, weighPartBytes, triBytes, halfBytes, List.cons_append, List.nil_append, halfOf_halfBytes,
        triOf_triBytes, if_true, clampNat_eq_max_min (show 10 ≤ 100000 by decide),
        clampNat_eq_max_min (show 0 ≤ 5000 by decide)]
    have hclamped : decide ((⟨max 10 (min 100000 t.toNat), max 0 (min 5000 o.toNat)⟩ : WeighPart) ≠ ⟨t.toNat, o.toNat⟩) =
        weighOutside (t, o) := by
      rw [Bool.eq_iff_iff]
      simp only [weighOutside, outside, ne_eq, WeighPart.mk.injEq, Bool.or_eq_true, decide_eq_true_eq]
      omega
    rw [hclamped, Nat.zero_max] at hread
    exact hread

theorem readTime_written (o : Option (Half × Byte)) (rest : List Byte) :
    readTime o.isSome ((o.map timePartBytes).getD [] ++ rest) =
      if o.any fun t => decide (2 ≤ t.2.toNat) then none
      else some (o.map timeStored, o.any fun t => outside 1 14400 t.1.toNat, rest) := by
  cases o with
  | none => rfl
  | some t =>
    obtain ⟨d, b⟩ := t
    have hread : readTime true (timePartBytes (d, b) ++ rest) = if decide (2 ≤ b.toNat) then none
        else some (some (timeStored (d, b)), outside 1 14400 d.toNat, rest) := by
      simp only [readTime, timePartBytes, halfBytes, List.cons_append, List.nil_append, halfOf_halfBytes, if_true,
        timeStartOf_eq, clampNat_eq_max_min (show 1 ≤ 14400 by decide), max_min_bne (show 1 ≤ 14400 by decide)]
      by_cases hb : 2 ≤ b.toNat
      · simp only [hb, decide_true, if_true]
      · simp only [hb, decide_false, Bool.false_eq_true, if_false]
        rfl
    exact hread

theorem readPrompt_written (o : Option Byte) (rest : List Byte) :
    readPrompt o.isSome (o.toList ++ rest) = some (o, false, rest) := by
  cases o <;> rfl

theorem readLimit_written (flags : Byte) (limit : Half) :
    readLimit flags (limit.extractLsb' 8 8) (limit.extractLsb' 0 8) =
      (if flags.getLsbD 2 then some (max 1 (min 14400 limit.toNat)) else none,
        flags.getLsbD 2 && outside 1 14400 limit.toNat) := by
  unfold readLimit
  simp only [halfOf_halfBytes, clampNat_eq_max_min (show 1 ≤ 14400 by decide), max_min_bne (show 1 ≤ 14400 by decide)]
  cases flags.getLsbD 2 <;> rfl

/-- The presence byte marks the parts (12.3). -/
theorem WrittenRecord.presence_bits (w : WrittenRecord) : w.presence.toNat < 32 ∧
    w.presence.getLsbD 0 = w.heat.isSome ∧ w.presence.getLsbD 1 = w.stir.isSome ∧
    w.presence.getLsbD 2 = w.weigh.isSome ∧ w.presence.getLsbD 3 = w.time.isSome ∧
    w.presence.getLsbD 4 = w.prompt.isSome := by
  unfold WrittenRecord.presence
  generalize w.heat.isSome = a
  generalize w.stir.isSome = b
  generalize w.weigh.isSome = c
  generalize w.time.isSome = d
  generalize w.prompt.isSome = e
  revert a b c d e
  decide

theorem WrittenRecord.stored_eq (w : WrittenRecord) : w.stored =
    { label := w.label, endMode := if w.flags.toNat % 4 = 0 then .any else .all
      limit := if w.flags.getLsbD 2 then some (max 1 (min 14400 w.limit.toNat)) else none
      autoTare := w.flags.getLsbD 3 && w.weigh.isSome, clamped := w.needsClamp, heat := w.heat.map heatStored
      stir := w.stir.map stirStored, weigh := w.weigh.map weighStored, time := w.time.map timeStored
      prompt := w.prompt } := rfl

theorem WrittenRecord.needsClamp_eq (w : WrittenRecord) : w.needsClamp =
    ((w.flags.getLsbD 2 && outside 1 14400 w.limit.toNat) || w.heat.any heatOutside || w.stir.any stirOutside ||
      w.weigh.any weighOutside || w.time.any fun t => outside 1 14400 t.1.toNat) := rfl

/-- A written record bears no condition, or its Time part counts from a mark that it has no Heat part for (R8). -/
theorem WrittenRecord.stored_sound (w : WrittenRecord) : w.stored.sound =
    ((w.heat.isSome || w.weigh.isSome || w.time.isSome || w.prompt.isSome) &&
      !w.time.any fun t => decide (t.2.toNat = 1) && w.heat.isNone) := by
  simp only [WrittenRecord.stored_eq, StepRecord.sound, Option.isSome_map]
  cases w.time with
  | none => rfl
  | some t =>
    by_cases hstart : t.2.toNat = 1
    · cases w.heat <;> simp [timeStored, hstart]
    · simp [timeStored, hstart]

/-- A record is faulty by a choice that names nothing, or by its parts (R8). -/
theorem WrittenRecord.faulty_eq (w : WrittenRecord) : w.faulty =
    (decide (2 ≤ w.flags.toNat % 4) || w.stir.any stirFaulty || (w.time.any fun t => decide (2 ≤ t.2.toNat)) ||
      !w.stored.sound) := by
  have hfaulty : w.faulty = (decide (2 ≤ w.flags.toNat % 4) || w.stir.any stirFaulty ||
      (w.time.any fun t => decide (2 ≤ t.2.toNat) || (decide (t.2.toNat = 1) && w.heat.isNone)) ||
      (w.heat.isNone && w.weigh.isNone && w.time.isNone && w.prompt.isNone)) := rfl
  rw [hfaulty, WrittenRecord.stored_sound]
  have htime : (w.time.any fun t => decide (2 ≤ t.2.toNat) || (decide (t.2.toNat = 1) && w.heat.isNone)) =
      ((w.time.any fun t => decide (2 ≤ t.2.toNat)) || w.time.any fun t => decide (t.2.toNat = 1) && w.heat.isNone) := by
    cases w.time <;> rfl
  rw [htime, Bool.eq_iff_iff]
  simp only [← Option.not_isSome, Bool.or_eq_true, Bool.and_eq_true, Bool.not_eq_true', Bool.and_eq_false_iff,
    Bool.or_eq_false_iff, Bool.not_eq_false']
  tauto

/-- The record that a written record spells (R8, R9). -/
theorem readRecord_written (w : WrittenRecord) : readRecord w.bytes = if w.faulty then none else some w.stored := by
  obtain ⟨hpresence, h0, h1, h2, h3, h4⟩ := w.presence_bits
  have hprompt := readPrompt_written w.prompt []
  rw [List.append_nil] at hprompt
  rw [WrittenRecord.bytes_eq, WrittenRecord.faulty_eq]
  simp only [readRecord, WrittenRecord.parts, h0, h1, h2, h3, h4, readHeat_written, readLimit_written, endModeOf_eq, bind]
  by_cases hflags : 2 ≤ w.flags.toNat % 4
  · simp [hflags]
  simp only [hflags, Option.bind_some, readStir_written, decide_false, Bool.false_or]
  by_cases hstir : w.stir.any stirFaulty = true
  · simp [hstir]
  simp only [hstir, Bool.false_eq_true, if_false, Option.bind_some, readWeigh_written, readTime_written, Bool.false_or]
  by_cases htime : (w.time.any fun t => decide (2 ≤ t.2.toNat)) = true
  · simp [htime]
  simp only [htime, Bool.false_eq_true, if_false, Option.bind_some, hprompt, Bool.false_or]
  rw [Option.isSome_map, ← WrittenRecord.needsClamp_eq, ← WrittenRecord.stored_eq]
  cases hsound : w.stored.sound <;> simp [hpresence]

/-! ## Frames whose parts disagree with their presence byte -/

theorem readHeat_length {present : Bool} {bytes rest : List Byte} {part : Option HeatPart} {k : Bool}
    (h : readHeat present bytes = some (part, k, rest)) : bytes.length = 5 * present.toNat + rest.length := by
  unfold readHeat at h
  split_ifs at h with hpresent
  · split at h
    · obtain ⟨-, -, rfl⟩ : _ ∧ _ ∧ _ := by simpa using h
      simp [hpresent]; omega
    · cases h
  · obtain ⟨-, -, rfl⟩ : _ ∧ _ ∧ _ := by simpa using h
    simp [hpresent]

theorem readStir_length {present : Bool} {bytes rest : List Byte} {part : Option StirPart} {k : Bool}
    (h : readStir present bytes = some (part, k, rest)) : bytes.length = 4 * present.toNat + rest.length := by
  unfold readStir at h
  split_ifs at h with hpresent
  · split at h
    · split at h
      · obtain ⟨-, -, rfl⟩ : _ ∧ _ ∧ _ := by simpa using h
        simp [hpresent]; omega
      · cases h
    · cases h
  · obtain ⟨-, -, rfl⟩ : _ ∧ _ ∧ _ := by simpa using h
    simp [hpresent]

theorem readWeigh_length {present : Bool} {bytes rest : List Byte} {part : Option WeighPart} {k : Bool}
    (h : readWeigh present bytes = some (part, k, rest)) : bytes.length = 5 * present.toNat + rest.length := by
  unfold readWeigh at h
  split_ifs at h with hpresent
  · split at h
    · obtain ⟨-, -, rfl⟩ : _ ∧ _ ∧ _ := by simpa using h
      simp [hpresent]; omega
    · cases h
  · obtain ⟨-, -, rfl⟩ : _ ∧ _ ∧ _ := by simpa using h
    simp [hpresent]

theorem readTime_length {present : Bool} {bytes rest : List Byte} {part : Option TimePart} {k : Bool}
    (h : readTime present bytes = some (part, k, rest)) : bytes.length = 3 * present.toNat + rest.length := by
  unfold readTime at h
  split_ifs at h with hpresent
  · split at h
    · split at h
      · obtain ⟨-, -, rfl⟩ : _ ∧ _ ∧ _ := by simpa using h
        simp [hpresent]; omega
      · cases h
    · cases h
  · obtain ⟨-, -, rfl⟩ : _ ∧ _ ∧ _ := by simpa using h
    simp [hpresent]

theorem readPrompt_length {present : Bool} {bytes rest : List Byte} {part : Option Byte} {k : Bool}
    (h : readPrompt present bytes = some (part, k, rest)) : bytes.length = present.toNat + rest.length := by
  unfold readPrompt at h
  split_ifs at h with hpresent
  · split at h
    · obtain ⟨-, -, rfl⟩ : _ ∧ _ ∧ _ := by simpa using h
      simp [hpresent]; omega
    · cases h
  · obtain ⟨-, -, rfl⟩ : _ ∧ _ ∧ _ := by simpa using h
    simp [hpresent]

/-- A record that is read has the parts that its presence byte marks, and no bit of that byte is unused (R199). -/
theorem readRecord_parts {label flags h1 h0 presence : Byte} {parts : List Byte} {r : StepRecord}
    (h : readRecord (label :: flags :: h1 :: h0 :: presence :: parts) = some r) : presence.toNat < 32 ∧
    parts.length = 5 * (presence.getLsbD 0).toNat + 4 * (presence.getLsbD 1).toNat + 5 * (presence.getLsbD 2).toNat +
      3 * (presence.getLsbD 3).toNat + (presence.getLsbD 4).toNat := by
  simp only [readRecord, bind, Option.bind_eq_some_iff] at h
  obtain ⟨endMode, -, ⟨heat, k1, r1⟩, hheat, ⟨stir, k2, r2⟩, hstir, ⟨weigh, k3, r3⟩, hweigh, ⟨time, k4, r4⟩, htime,
    ⟨prompt, k5, r5⟩, hprompt, h⟩ := h
  dsimp only at h
  split_ifs at h with hsound
  obtain ⟨rfl, hpresence, -⟩ := hsound
  have hlengths := readHeat_length hheat
  rw [readStir_length hstir, readWeigh_length hweigh, readTime_length htime, readPrompt_length hprompt,
    List.length_nil] at hlengths
  exact ⟨hpresence, by omega⟩

/-! ## The bytes of a stored record -/

/-- The flags byte of a stored record (12.3). -/
theorem StepRecord.written_flags (r : StepRecord) :
    r.written.flags.toNat % 4 = (match r.endMode with | .any => 0 | .all => 1) ∧
    r.written.flags.getLsbD 2 = r.limit.isSome ∧ r.written.flags.getLsbD 3 = r.autoTare ∧
    r.written.flags.getLsbD 4 = r.clamped := by
  obtain ⟨label, mode, limit, tare, clamped, -⟩ := r
  simp only [StepRecord.written]
  generalize limit.isSome = a
  cases mode <;> revert a tare clamped <;> decide

theorem heatStored_written {h : HeatPart} (htarget : within 300 1600 h.target) (hcap : within 50 1500 h.cap)
    (hband : within 10 200 h.band) :
    heatStored (BitVec.ofNat 16 h.target, BitVec.ofNat 16 h.cap, BitVec.ofNat 8 h.band) = h ∧
    heatOutside (BitVec.ofNat 16 h.target, BitVec.ofNat 16 h.cap, BitVec.ofNat 8 h.band) = false := by
  have htarget16 : (BitVec.ofNat 16 h.target).toNat = h.target := Nat.mod_eq_of_lt (by omega)
  have hcap16 : (BitVec.ofNat 16 h.cap).toNat = h.cap := Nat.mod_eq_of_lt (by omega)
  have hband8 : (BitVec.ofNat 8 h.band).toNat = h.band := Nat.mod_eq_of_lt (by omega)
  have hpos : h.band ≠ 0 := by omega
  simp only [heatStored, heatOutside, htarget16, hcap16, hband8, if_neg hpos, max_min_of_within htarget,
    max_min_of_within hcap, max_min_of_within hband, outside_eq_false_iff.mpr htarget, outside_eq_false_iff.mpr hcap,
    outside_eq_false_iff.mpr hband, Bool.and_false, Bool.or_self, and_self]

theorem weighStored_written {w : WeighPart} (htarget : within 10 100000 w.target) (htolerance : w.tolerance ≤ 5000) :
    weighStored (BitVec.ofNat 24 w.target, BitVec.ofNat 16 w.tolerance) = w ∧
    weighOutside (BitVec.ofNat 24 w.target, BitVec.ofNat 16 w.tolerance) = false := by
  have htarget24 : (BitVec.ofNat 24 w.target).toNat = w.target := Nat.mod_eq_of_lt (by omega)
  have htolerance16 : (BitVec.ofNat 16 w.tolerance).toNat = w.tolerance := Nat.mod_eq_of_lt (by omega)
  have hwithin : within 0 5000 w.tolerance := ⟨Nat.zero_le _, htolerance⟩
  simp only [weighStored, weighOutside, htarget24, htolerance16, max_min_of_within htarget, Nat.min_eq_right htolerance,
    outside_eq_false_iff.mpr htarget, outside_eq_false_iff.mpr hwithin, Bool.or_self, and_self]

theorem timeStored_written {t : TimePart} (h : within 1 14400 t.duration) (b : Byte)
    (hb : b.toNat = 1 ↔ t.start = .fromReached) : timeStored (BitVec.ofNat 16 t.duration, b) = t ∧
    outside 1 14400 (BitVec.ofNat 16 t.duration).toNat = false := by
  have hduration : (BitVec.ofNat 16 t.duration).toNat = t.duration := Nat.mod_eq_of_lt (by omega)
  obtain ⟨duration, start⟩ := t
  rw [hduration]
  refine ⟨?_, outside_eq_false_iff.mpr h⟩
  simp only [timeStored, hb, hduration, max_min_of_within h]
  cases start <;> rfl

/-- The mode byte of a stored Stir part (12.3). -/
def StirPart.modeOf (t : StirPart) : Nat :=
  (match t.direction with | .forward => 0 | .reverse => 1) +
    match t.pattern with | .continuous => 0 | .interval _ _ => 4 | .knead => 8

/-- The numbers of a stored Stir part, as its bytes show them (12.3). -/
def StirPart.written (t : StirPart) : Byte × Byte × Byte × Byte :=
  (BitVec.ofNat 8 t.level, BitVec.ofNat 8 t.modeOf,
    match t.pattern with
    | .interval on off => (BitVec.ofNat 8 on, BitVec.ofNat 8 off)
    | .continuous | .knead => (0, 0))

theorem StepRecord.written_stir (r : StepRecord) : r.written.stir = r.stir.map StirPart.written := by
  unfold StepRecord.written
  cases r.stir with
  | none => rfl
  | some t =>
    obtain ⟨level, direction, pattern⟩ := t
    cases pattern <;> rfl

theorem StirPart.written_mode (t : StirPart) :
    t.written.2.1.toNat % 4 = (match t.direction with | .forward => 0 | .reverse => 1) ∧
    t.written.2.1.toNat / 4 % 4 = (match t.pattern with | .continuous => 0 | .interval _ _ => 1 | .knead => 2) := by
  obtain ⟨level, direction, pattern⟩ := t
  cases direction <;> cases pattern <;> simp [StirPart.written, StirPart.modeOf]

theorem StirPart.written_slow (t : StirPart) :
    (if stirSlow t.written then 4 else 12) = topLevel t.direction t.pattern := by
  obtain ⟨hdirection, hpattern⟩ := t.written_mode
  unfold stirSlow topLevel
  rw [hdirection, hpattern]
  cases t.direction <;> cases t.pattern <;> rfl

theorem stirStored_written {t : StirPart} (hlevel : within 1 (topLevel t.direction t.pattern) t.level)
    (hpattern : t.pattern.inRange = true) : stirStored t.written = t ∧ stirOutside t.written = false ∧
    stirFaulty t.written = false := by
  obtain ⟨hmode, hmodePattern⟩ := t.written_mode
  have hslow := t.written_slow
  have htop : topLevel t.direction t.pattern ≤ 12 := by
    unfold topLevel
    split_ifs <;> decide
  have hlevel8 : t.written.1.toNat = t.level := Nat.mod_eq_of_lt (by omega)
  have htimes (on off : Nat) (h : t.pattern = .interval on off) : within 1 60 on ∧ within 1 60 off ∧
      t.written.2.2.1.toNat = on ∧ t.written.2.2.2.toNat = off := by
    rw [h] at hpattern
    simp only [Pattern.inRange, Bool.and_eq_true, decide_eq_true_eq] at hpattern
    obtain ⟨hon, hoff⟩ := hpattern
    simp only [StirPart.written, h]
    exact ⟨hon, hoff, Nat.mod_eq_of_lt (by omega), Nat.mod_eq_of_lt (by omega)⟩
  unfold stirStored stirOutside stirFaulty
  rw [hslow, hmode, hmodePattern, hlevel8, max_min_of_within hlevel, outside_eq_false_iff.mpr hlevel]
  obtain ⟨level, direction, pattern⟩ := t
  cases pattern with
  | interval on off =>
    obtain ⟨hon, hoff, hon8, hoff8⟩ := htimes on off rfl
    simp only [hon8, hoff8, max_min_of_within hon, max_min_of_within hoff, outside_eq_false_iff.mpr hon,
      outside_eq_false_iff.mpr hoff]
    cases direction <;> exact ⟨rfl, rfl, rfl⟩
  | continuous => cases direction <;> exact ⟨rfl, rfl, rfl⟩
  | knead => cases direction <;> exact ⟨rfl, rfl, rfl⟩

/-- A stored record is read from its bytes (12.3). -/
theorem StepRecord.stored_written {r : StepRecord} (h : r.inRange) :
    r.written.stored = { r with clamped := false } ∧ r.written.faulty = false := by
  obtain ⟨hlimit, hheat, hstir, hweigh, htime, hsound, htare⟩ := h
  obtain ⟨hmode, hlimitBit, htareBit, -⟩ := r.written_flags
  have hheatStored : r.written.heat.map heatStored = r.heat ∧ r.written.heat.any heatOutside = false := by
    unfold StepRecord.written
    cases hr : r.heat with
    | none => exact ⟨rfl, rfl⟩
    | some x =>
      obtain ⟨htarget, hcap, hband⟩ := hheat x hr
      obtain ⟨hstored, hinside⟩ := heatStored_written htarget hcap hband
      exact ⟨congrArg some hstored, hinside⟩
  have hstirStored : r.written.stir.map stirStored = r.stir ∧ r.written.stir.any stirOutside = false ∧
      r.written.stir.any stirFaulty = false := by
    rw [r.written_stir]
    cases hr : r.stir with
    | none => exact ⟨rfl, rfl, rfl⟩
    | some x =>
      obtain ⟨hlevel, hpattern⟩ := hstir x hr
      obtain ⟨hstored, hinside, hnamed⟩ := stirStored_written hlevel hpattern
      exact ⟨congrArg some hstored, hinside, hnamed⟩
  have hweighStored : r.written.weigh.map weighStored = r.weigh ∧ r.written.weigh.any weighOutside = false := by
    unfold StepRecord.written
    cases hr : r.weigh with
    | none => exact ⟨rfl, rfl⟩
    | some x =>
      obtain ⟨htarget, htolerance⟩ := hweigh x hr
      obtain ⟨hstored, hinside⟩ := weighStored_written htarget htolerance
      exact ⟨congrArg some hstored, hinside⟩
  have htimeStored : r.written.time.map timeStored = r.time ∧
      (r.written.time.any fun t => outside 1 14400 t.1.toNat) = false ∧
      (r.written.time.any fun t => decide (2 ≤ t.2.toNat)) = false := by
    unfold StepRecord.written
    cases hr : r.time with
    | none => exact ⟨rfl, rfl, rfl⟩
    | some x =>
      obtain ⟨duration, start⟩ := x
      cases start with
      | fromEntry =>
        obtain ⟨hstored, hinside⟩ := timeStored_written (htime _ hr) 0 (by simp)
        exact ⟨congrArg some hstored, hinside, rfl⟩
      | fromReached =>
        obtain ⟨hstored, hinside⟩ := timeStored_written (htime _ hr) 1 (by simp)
        exact ⟨congrArg some hstored, hinside, rfl⟩
  have hlimitStored : (if r.limit.isSome then some (max 1 (min 14400 r.written.limit.toNat)) else none) = r.limit ∧
      (r.limit.isSome && outside 1 14400 r.written.limit.toNat) = false := by
    have hwritten : r.written.limit = BitVec.ofNat 16 (r.limit.getD 0) := rfl
    rw [hwritten]
    cases hr : r.limit with
    | none => exact ⟨rfl, rfl⟩
    | some l =>
      have hwithin := hlimit l hr
      have hlimit16 : (BitVec.ofNat 16 ((some l).getD 0)).toNat = l := Nat.mod_eq_of_lt (by
        simp only [Option.getD_some]
        omega)
      rw [hlimit16, max_min_of_within hwithin, outside_eq_false_iff.mpr hwithin]
      exact ⟨rfl, rfl⟩
  have hendMode : (if r.written.flags.toNat % 4 = 0 then EndMode.any else .all) = r.endMode := by
    rw [hmode]
    cases r.endMode <;> rfl
  have htareStored : (r.autoTare && r.written.weigh.isSome) = r.autoTare := by
    have hweighSome : r.written.weigh.isSome = r.weigh.isSome := by rw [← hweighStored.1, Option.isSome_map]
    cases htareValue : r.autoTare
    · rfl
    · rw [hweighSome, htare htareValue]
      rfl
  have hstored : r.written.stored = { r with clamped := false } := by
    rw [WrittenRecord.stored_eq, WrittenRecord.needsClamp_eq, hendMode, hlimitBit, htareBit, hlimitStored.1,
      hlimitStored.2, htareStored, hheatStored.1, hheatStored.2, hstirStored.1, hstirStored.2.1, hweighStored.1,
      hweighStored.2, htimeStored.1, htimeStored.2.1]
    rfl
  refine ⟨hstored, ?_⟩
  have hsoundStored : r.written.stored.sound = true := by
    rw [hstored]
    exact hsound
  have hnamed : ¬ 2 ≤ r.written.flags.toNat % 4 := by
    rw [hmode]
    cases r.endMode <;> decide
  rw [WrittenRecord.faulty_eq, hstirStored.2.2, htimeStored.2.2, hsoundStored, decide_eq_false hnamed]
  rfl

/-! ## PUT STEP -/

/-- The store of a record, once its checks have passed (R12). -/
theorem putStepRule_stores {index : Byte} {record : List Byte} {s : State} {r : StepRecord}
    (hstate : ¬ s.run.state.refusesEdits = true) (hlocked : ¬ s.lockedIndex index.toNat = true)
    (hindex : ¬ s.program.length < index.toNat) (hroom : ¬ (index.toNat = s.program.length ∧ 48 ≤ s.program.length))
    (hread : readRecord record = some r) : putStepRule index record s =
      ({ s with
          program := s.program.put index.toNat r
          run := { s.run with state := if s.run.state = .idle then .ready else s.run.state }
          aux := { s.aux with lamp := if s.run.state = .idle then false else s.aux.lamp } },
        ⟨okOr r.clamped, u8 index.toNat ++ u8 (s.program.put index.toNat r).length⟩) := by
  have hfull : ¬ (index.toNat = s.program.length ∧ Config.tableSize ≤ s.program.length) := hroom
  have hput : (s.program.put index.toNat r).length ≠ 0 := by
    rw [Program.length_put]
    split_ifs <;> omega
  simp only [putStepRule, if_neg hstate, if_neg hlocked, if_neg hindex, if_neg hfull, hread]
  by_cases hidle : s.run.state = .idle
  · have hrest : State.restState { s with program := s.program.put index.toNat r } = .ready := if_neg hput
    simp only [if_pos hidle, hrest, State.setRunState_dark (r := .ready) rfl]
  · simp only [if_neg hidle]

/-- Settles O23: the record's bytes, the frames that spell none, the bytes of a stored record, and the checks of R12. -/
theorem putStepStoresTheRecord : Obligations.PutStepStoresTheRecord := by
  refine ⟨readRecord_written, fun bytes hshort => ?_, fun label flags h1 h0 presence parts hdisagree => ?_,
    fun r hrange => ?_, fun p index record s hreach => ?_⟩
  · match bytes, hshort with
    | [], _ => rfl
    | [_], _ => rfl
    | [_, _], _ => rfl
    | [_, _, _], _ => rfl
    | [_, _, _, _], _ => rfl
    | _ :: _ :: _ :: _ :: _ :: rest, hshort =>
      simp only [List.length_cons] at hshort
      omega
  · cases hread : readRecord (label :: flags :: h1 :: h0 :: presence :: parts) with
    | none => rfl
    | some r =>
      obtain ⟨hpresence, hlength⟩ := readRecord_parts hread
      rcases hdisagree with hbit | hparts
      · omega
      · exact absurd hlength hparts
  · obtain ⟨hstored, hfaulty⟩ := StepRecord.stored_written hrange
    rw [recordBytes_eq_written, readRecord_written, hfaulty, hstored]
    refine ⟨rfl, ?_⟩
    rw [WrittenRecord.bytes_eq]
    exact congrArg some r.written_flags.2.2.2
  · have hrefuses := RunState.refusesEdits_iff
      (State.not_faulted_of_reaches (p := p) rfl hreach (by decide) (by decide) (by decide))
    dsimp only
    rw [exec_of_reaches (i := .putStep p index record) rfl rfl hreach]
    generalize s.taken (.putStep p index record) = s1 at hrefuses ⊢
    have hlockedIff : s1.lockedIndex index.toNat = true ↔ s1.run.state.inRun = true ∧ index.toNat ≤ s1.run.cursor := by
      simp [State.lockedIndex]
    by_cases hstate : s1.run.state = .config ∨ s1.run.state = .halted
    · rw [if_pos hstate, putStepRule, if_pos (hrefuses.mpr hstate)]
      rfl
    have hedits := mt hrefuses.mp hstate
    by_cases hlocked : s1.run.state.inRun = true ∧ index.toNat ≤ s1.run.cursor
    · rw [if_neg hstate, if_pos hlocked, putStepRule, if_neg hedits, if_pos (hlockedIff.mpr hlocked)]
      rfl
    have hopen := mt hlockedIff.mp hlocked
    by_cases hindex : s1.program.length < index.toNat
    · rw [if_neg hstate, if_neg hlocked, if_pos hindex, putStepRule, if_neg hedits, if_neg hopen, if_pos hindex]
      rfl
    by_cases hfull : index.toNat = s1.program.length ∧ 48 ≤ s1.program.length
    · rw [if_neg hstate, if_neg hlocked, if_neg hindex, if_pos hfull, putStepRule, if_neg hedits, if_neg hopen,
        if_neg hindex, if_pos (show index.toNat = s1.program.length ∧ Config.tableSize ≤ s1.program.length from hfull)]
      rfl
    rw [if_neg hstate, if_neg hlocked, if_neg hindex, if_neg hfull]
    cases hread : readRecord record with
    | none =>
      have hsize : ¬ (index.toNat = s1.program.length ∧ Config.tableSize ≤ s1.program.length) := hfull
      simp only [putStepRule, if_neg hedits, if_neg hopen, if_neg hindex, if_neg hsize, hread]
      rfl
    | some r =>
      rw [putStepRule_stores hedits hopen hindex hfull hread]
      rfl

end Sys2Proof.Machine
end
